-- ==== Sys2Proof/Word.lean ====
section
/-! DEFINITION. The word types of the model (00_scope R6, R7). -/

namespace Sys2Proof

/-- A byte. -/
abbrev Byte := BitVec 8
/-- A 32-bit word: a doubleword, an immediate, half a register. -/
abbrev DWord := BitVec 32
/-- A 64-bit word: a general register, a linear address, an MSR. -/
abbrev QWord := BitVec 64
/-- A whole vector register, or one row of a tile (10_state R40, R45): wide enough for either
value of `MAXVL`, and for the 64 bytes of a tile row. -/
abbrev Vec := BitVec 512
/-- The number of a general, vector or tile register as an encoding gives it (30_encoding R134, R138). -/
abbrev RegNum := BitVec 4

end Sys2Proof
end

