-- ==== Sys2Proof/Config.lean ====
section
/-! DEFINITION. The free values: what the spec leaves open and a proof may not know (93_implementation_defined,
treatments "any value" and "parameter"). None has a body. Logs 11, 15, 20, 38, 55. -/

namespace Sys2Proof

/-- The random material of draw `n`: keys and initialization vectors (93 U28; log 11). -/
opaque Config.randomBits : Nat → BitVec 512
/-- The value RDMSRLIST stores for an IA32_BARRIER entry at draw `n` (93 U12; log 51). -/
opaque Config.barrierValue : Nat → QWord
/-- What a running performance counter reads at draw `n` (60 R550, 93 U21; log 19). -/
opaque Config.counterValue : Nat → QWord
/-- How far ahead the TSC is when RDMSRLIST samples it at draw `n` (44 R292; log 10). -/
opaque Config.tscAhead : Nat → Nat
/-- The undefined bits of the VM-exit instruction information at draw `n` (93 U14; log 36). -/
opaque Config.exitInfoBits : Nat → DWord
/-- HMAC based on SHA-256: key, then the 32-byte message (43 R259; log 20). -/
opaque Config.hmacSha256 : BitVec 256 → BitVec 256 → BitVec 256
/-- AES256-GCM encryption of the 64 bytes of key data under a key, an IV and additional data; its inverse is the
decryption (43 R259; log 20). The one law is that they invert each other. -/
opaque Config.gcmCipher : BitVec 256 → BitVec 96 → BitVec 1408 → (BitVec 512 ≃ BitVec 512)
/-- The AES256-GCM tag over additional data (176 bytes) and the 64 encrypted bytes (43 R259; log 20). -/
opaque Config.gcmTag : BitVec 256 → BitVec 96 → BitVec 1408 → BitVec 512 → BitVec 128
/-- `PLATFORM_KEYS.tse_wrap`, the hidden wrapping key (00_scope R5; log 20). -/
opaque Config.tseWrapKey : BitVec 256
/-- How one output element of AMX is summed: what 48_amx R421 leaves open (00_scope R5, `AMX_FP_RESULT`; 93 U16). -/
structure AmxOrder where
  /-- Each step takes two partial sums, by position, adds them, and rounds or not. What is left after the steps is added
  exactly; the whole is rounded. -/
  steps : List (Nat × Nat × Bool)
  /-- A denormal accumulator keeps its value, instead of being read as zero. -/
  readDenormals : Bool
  /-- Flush-to-zero is decided before rounding, not after. -/
  flushBefore : Bool
  /-- The sum starts from +0. -/
  startsAtZero : Bool
  deriving DecidableEq, Repr, Inhabited

/-- The order of an element where the platform does not follow the reference: of the variant (0 TDPFP16PS, 1 TCMMIMFP16PS,
2 TCMMRLFP16PS), the accumulator, the pairs of source dwords in order of k (log 15). -/
opaque Config.amxOrder : Nat → DWord → List (DWord × DWord) → AmxOrder
/-- The NaN such an element is, as to sign and payload (48_amx R421; log 15). -/
opaque Config.amxNaN : Nat → DWord → List (DWord × DWord) → DWord
/-- The TSC value a guest's user deadline stands for where "RDTSC exiting" is 1 and the conversion "may not be
meaningful" (60 R524; log 38). -/
opaque Config.unmeantDeadline : QWord → Nat
/-- The fields of a last-branch record other than its branch type, at draw `n` (60 R557; log 55). -/
opaque Config.lbrInfo : Nat → QWord

end Sys2Proof
end

