-- ==== Sys2Proof/Machine/Platform.lean ====
section
/-! DEFINITION. The implementation parameters of 00_scope R5 as plain data, and the values they have at reset
(log 3). -/

namespace Sys2Proof.Machine

/-- One row of `CPUID_TABLE`: `sub` is `none` where the leaf does not look at ECX (40_cpuid R170). -/
structure CpuidRow where
  leaf : DWord
  sub : Option DWord
  eax : DWord
  ebx : DWord
  ecx : DWord
  edx : DWord
  deriving DecidableEq, Repr

/-- One MSR of `MSR_SET` (44 R290, 93 U8): `reserved` are the bits a write may not set, `canonical` says that the
value is an address, `counter` that it counts by itself, `serializing` that a write to it is a serializing operation
(00_scope R5, 44 R298). -/
structure MsrDesc where
  addr : Nat
  readable : Bool
  writable : Bool
  reserved : QWord
  canonical : Bool
  counter : Bool
  serializing : Bool
  deriving DecidableEq, Repr

/-- Memory types (20_memory R83). -/
inductive MemType where
  | wb | wt | wp | wc | uc
  deriving DecidableEq, Repr

/-- A range of physical addresses and its memory type. -/
structure MemRegion where
  base : Nat
  size : Nat
  type : MemType
  deriving DecidableEq, Repr

/-- What an access does to its bytes (00_scope R5, `Translate`). -/
inductive AccessKind where
  | read | write | fetch
  deriving DecidableEq, Repr

/-- What `Translate` answers for a page: a physical page, with the memory type the translation gives it if it gives
one (R83), a page fault with its code, or an EPT violation (20_memory R95 step 5). -/
inductive TransResult where
  | frame (page : Nat) (type : Option MemType)
  | pageFault (code : DWord)
  | eptViolation (qualification : QWord)
  deriving DecidableEq, Repr

/-- One entry of the translation oracle (92 D13; log 6). -/
structure TransEntry where
  cr3 : QWord
  page : Nat
  kind : AccessKind
  user : Bool
  result : TransResult
  deriving DecidableEq, Repr

/-- What fires a trigger unit (60 R563): an event or the overflow of a general-purpose counter, a match of a debug
register. -/
inductive TriggerInput where
  | event (counter : Nat)
  | overflow (counter : Nat)
  | debugMatch (x : Nat)
  deriving DecidableEq, Repr

/-- Where the fields of trace triggering stand. The spec says that every one of these positions is lost (60 R564, R566),
so they are a parameter (log 52). -/
structure TraceLayout where
  /-- Address of IA32_RTIT_TRIGGER0_CFG; unit `x` follows at `x` more. -/
  triggerBase : Nat
  /-- Bit `Action.En` of IA32_RTIT_TRIGGERx_CFG, and the bits that ask for a pause and for a resume. -/
  enableBit : Nat
  pauseBit : Nat
  resumeBit : Nat
  /-- The input field: its lowest bit, its width, the input that each code selects. -/
  inputLow : Nat
  inputWidth : Nat
  inputs : List (Nat × TriggerInput)
  /-- Bit `EN_PT_LOG` of PERFEVTSELx. -/
  eventLogBit : Nat
  /-- Bit `DR0_PT_LOG` of DR7; that of DRx is `x` higher. -/
  debugLogBit : Nat
  deriving DecidableEq, Repr

/-- Which of the two CPUID bits allow MWAIT with ECX[2] = 1: the rules differ where the bits do (log 32). -/
inductive MonitorlessGate where
  /-- CPUID.05H:ECX[3] (49 R468, R473, R476). -/
  | leaf5
  /-- CPUID.(7,1):EDX[23] (70_reset R583). -/
  | leaf7
  /-- Either bit: each says supported (40_cpuid R196). -/
  | either
  /-- Both bits, so that each that is 0 gives the #GP(0) of its rule (49 R476, 70_reset R583). -/
  | both
  deriving DecidableEq, Repr

/-- The parameters of 00_scope R5. -/
structure Platform where
  /-- `CPUID_TABLE`. -/
  cpuid : List CpuidRow
  /-- `MSR_SET`. -/
  msrSet : List MsrDesc
  /-- `USER_MSR_WRITABLE` (44 R312). -/
  userMsrWritable : List Nat
  /-- `memtype`: WB where no region is listed. -/
  memTypes : List MemRegion
  /-- `Translate`: the identity where no entry is listed. -/
  translation : List TransEntry
  /-- Where `TSE_MAX_KEYS` stands in IA32_TSE_CAPABILITY: lowest bit and width. The field is lost (91 N33), so its
  position is a parameter (log 21). -/
  tseKeysLow : Nat
  tseKeysWidth : Nat
  /-- `NE_FP16_SNAN` is preserve, not quiet (45 R332). -/
  fp16SNaNPreserved : Bool
  /-- `USER_MSR_DISABLED_FAULT` is #GP(0), not #UD (44 R309). -/
  userMsrDisabledIsGp : Bool
  /-- The register forms of URDMSR and UWRMSR ignore bits 63:32 of the address register (93 U11). -/
  userMsrUpperIgnored : Bool
  /-- `AMX_FP_RESULT` is the reference Operation of 48_amx R422 to R424. -/
  amxReference : Bool
  /-- A register form of PREFETCHIT is #UD, as 93 U3 has it, and not a reserved NOP (30_encoding R145, 49 R458; log 28). -/
  registerHintUd : Bool
  /-- What enumerates monitorless MWAIT (log 32). -/
  monitorlessGate : MonitorlessGate
  /-- The positions of the trace-trigger fields. -/
  trace : TraceLayout
  deriving DecidableEq, Repr

/-! ## CPUID at reset -/

/-- Leaves 0 to 6: identification, features, MONITOR/MWAIT (40_cpuid R174 to R182). Bits 2:0 of 01H:EDX, whose rows are
lost, and leaf 05H but for ECX[3], whose layout is lost, are the family's (PRESUMED, log 53). -/
def resetCpuidBasic : List CpuidRow :=
  [⟨0x0, none, 0x24, 0x756E6547, 0x6C65746E, 0x49656E69⟩,
   ⟨0x1, none, 0x000C0662, 0x00010800, 0x77D8B208, 0x07ABFBFF⟩,
   ⟨0x2, none, 0x00000001, 0, 0, 0⟩,
   ⟨0x5, none, 0x40, 0x40, 0xB, 0⟩]

/-- Leaf 7: every feature of this spec (40_cpuid R190, R191), with UC-lock disable in its #AC flavour. -/
def resetCpuidFeatures : List CpuidRow :=
  [⟨0x7, some 0, 2, 0, 0, 0x03440020⟩,
   ⟨0x7, some 1, 0x0CA800DF, 0x2, 0, 0x0082E530⟩,
   ⟨0x7, some 2, 0, 0, 0, 0x40⟩]

/-- Leaves 0AH to 24H: XSAVE, resource monitoring and allocation, trace, PCONFIG targets, AMX, performance monitoring
(40_cpuid R182 to R194). The layouts of 0AH, 0FH, 1BH, 1DH, 1EH, 23H and of EBX in the sub-leaves 2 and up of 0DH are
not in the spec and are the family's (PRESUMED, logs 29, 31, 53). -/
def resetCpuidLater : List CpuidRow :=
  [⟨0xA, none, 0x07300805, 0, 0, 0x00000607⟩,
   ⟨0xD, some 0, 0x00060007, 0, 11008, 0⟩,
   ⟨0xD, some 2, 256, 576, 0, 0⟩,
   ⟨0xD, some 17, 64, 2752, 2, 0⟩,
   ⟨0xD, some 18, 8192, 2816, 6, 0⟩,
   ⟨0xF, some 0, 0, 0xFF, 0, 2⟩,
   ⟨0xF, some 1, 0, 1, 0xFF, 7⟩,
   ⟨0x10, some 0, 0, 0x26, 0, 0⟩,
   ⟨0x10, some 1, 0xB, 0, 0, 3⟩,
   ⟨0x10, some 2, 0xB, 0, 0, 3⟩,
   ⟨0x10, some 5, 0x10A, 0, 8, 15⟩,
   ⟨0x14, some 0, 1, 0, 0, 0⟩,
   ⟨0x14, some 1, 0x200, 0, 0, 0⟩,
   ⟨0x1B, some 0, 1, 1, 2, 0⟩,
   ⟨0x1D, some 0, 1, 0, 0, 0⟩,
   ⟨0x1D, some 1, 0x04002000, 0x00080040, 0x10, 0⟩,
   ⟨0x1E, some 0, 0, 0x4010, 0, 0⟩,
   ⟨0x23, some 0, 0x3, 0, 0, 0⟩,
   ⟨0x23, some 1, 0xFF, 0x7F, 0, 0⟩]

/-- Extended leaves (40_cpuid R175, R187); MAXPHYADDR is 52 (00_scope R5). EDX of 80000007H, which is lost, and EAX[15:8] of
80000008H, which is not in the spec, are the family's (PRESUMED, log 53). -/
def resetCpuidExtended : List CpuidRow :=
  [⟨0x80000000, none, 0x80000008, 0, 0, 0⟩,
   ⟨0x80000007, none, 0, 0, 0, 0x100⟩,
   ⟨0x80000008, none, 0x3934, 0, 0, 0⟩]

/-! ## MSRs at reset -/

/-- A readable and writable MSR without reserved bits. -/
def plainMsr (addr : Nat) : MsrDesc := ⟨addr, true, true, 0, false, false, false⟩

/-- A read-only MSR. -/
def readOnlyMsr (addr : Nat) : MsrDesc := ⟨addr, true, false, 0, false, false, false⟩

/-- A counter. -/
def counterMsr (addr : Nat) : MsrDesc := ⟨addr, true, true, 0, false, true, false⟩

/-- The four MSRs of general-purpose counter `n` (10_state R61, R64): bits 31:8 and 63:39 of CFG_B are reserved with
eight general and seven fixed counters. -/
def gpCounterMsrs (n : Nat) : List MsrDesc :=
  [counterMsr (0x1900 + 4 * n), plainMsr (0x1901 + 4 * n),
   ⟨0x1902 + 4 * n, true, true, 0xFFFFFF80FFFFFF00, false, false, false⟩, plainMsr (0x1903 + 4 * n)]

/-- The three MSRs of fixed-function counter `m` (10_state R61). -/
def fixedCounterMsrs (m : Nat) : List MsrDesc :=
  [counterMsr (0x1980 + 4 * m), plainMsr (0x1982 + 4 * m), plainMsr (0x1983 + 4 * m)]

/-- The trace layout at reset: the family's address range for the registers of the trace unit, the ruler mark 38 of
10_state R62 for EN_PT_LOG, bits above 31 of DR7 for DRx_PT_LOG (DESIGN CHOICE, log 52). -/
def resetTraceLayout : TraceLayout where
  triggerBase := 0x568
  enableBit := 0
  pauseBit := 1
  resumeBit := 2
  inputLow := 8
  inputWidth := 8
  inputs := (List.range 8).map (fun n => (n, .event n)) ++ (List.range 8).map (fun n => (16 + n, .overflow n)) ++
    (List.range 4).map (fun x => (32 + x, .debugMatch x))
  eventLogBit := 38
  debugLogBit := 32

/-- Address of IA32_TSE_CAPABILITY (10_state R56; PRESUMED, log 17). -/
def addrTseCapability : Nat := 0x9F1

/-- MSRs of instruction and feature control, MTRRcap FEH and MCG_CAP 179H among them (10_state R56 to R59, R66 to R68;
40_cpuid R178; log 17). -/
def resetMsrsControl : List MsrDesc :=
  [plainMsr 0x10, ⟨0x1C, true, true, 0xFFE, true, false, false⟩,
   ⟨0x33, true, true, 0xFFFFFFFFCFFFFFFF, false, false, false⟩, plainMsr 0x48, readOnlyMsr 0xCF, readOnlyMsr 0xFE,
   readOnlyMsr 0x179, plainMsr 0x1A0, plainMsr 0x6E0, readOnlyMsr 0x981, plainMsr 0x982,
   readOnlyMsr addrTseCapability, plainMsr 0xC8D, counterMsr 0xC8E, plainMsr 0xC8F, plainMsr 0xC90,
   plainMsr 0xC91, plainMsr 0xC92, plainMsr 0xC93, plainMsr 0xD10, plainMsr 0xD11, plainMsr 0xD12,
   plainMsr 0xD13, plainMsr 0xDA0, plainMsr 0xE00, plainMsr 0xE01, plainMsr 0x1B00, plainMsr 0x1B01,
   readOnlyMsr 0xC0000080, ⟨0xC0000102, true, true, 0, true, false, false⟩]

/-- MSRs of performance monitoring and tracing (10_state R60 to R65). -/
def resetMsrsMonitoring : List MsrDesc :=
  (List.range 8).flatMap gpCounterMsrs ++ (List.range 7).flatMap fixedCounterMsrs ++
  [counterMsr 0x329, readOnlyMsr 0x345, readOnlyMsr 0x38E, plainMsr 0x38F, plainMsr 0x390, plainMsr 0x391,
   plainMsr 0x3F2, plainMsr 0x570, plainMsr 0x571, plainMsr 0x14CE] ++
  (List.range 4).map (fun x => plainMsr (0x1200 + x)) ++
  (List.range 2).map (fun x => plainMsr (resetTraceLayout.triggerBase + x))

/-- The parameters of the machine that `State.reset` describes (log 3). -/
def resetPlatform : Platform where
  cpuid := resetCpuidBasic ++ resetCpuidFeatures ++ resetCpuidLater ++ resetCpuidExtended
  msrSet := resetMsrsControl ++ resetMsrsMonitoring
  userMsrWritable := [0x1B00, 0x1B01]
  memTypes := []
  translation := []
  tseKeysLow := 36
  tseKeysWidth := 15
  fp16SNaNPreserved := false
  userMsrDisabledIsGp := false
  userMsrUpperIgnored := false
  amxReference := true
  registerHintUd := true
  monitorlessGate := .both
  trace := resetTraceLayout

end Sys2Proof.Machine
end

