-- ==== Sys2Proof/Machine/Store.lean ====
section
/-! DEFINITION. Sparse data by number in one canonical form, and physical memory as one such list (20_memory R81). -/

namespace Sys2Proof.Machine

/-- Values by number. In canonical form the numbers rise strictly and no entry holds the default value, so equal
contents are equal lists. -/
abbrev Store (α : Type) := List (Nat × α)

/-- The value at `k`: the default where nothing is listed. -/
def Store.get {α : Type} (dflt : α) (k : Nat) : Store α → α
  | [] => dflt
  | (j, v) :: rest => if k = j then v else Store.get dflt k rest

/-- Put `v` in front, unless it is the default value. -/
def Store.put {α : Type} [DecidableEq α] (dflt : α) (k : Nat) (v : α) (rest : Store α) : Store α :=
  if v = dflt then rest else (k, v) :: rest

/-- Store `v` at `k`, keeping the canonical form: storing the default value removes the entry. -/
def Store.set {α : Type} [DecidableEq α] (dflt : α) (k : Nat) (v : α) : Store α → Store α
  | [] => Store.put dflt k v []
  | (j, w) :: rest =>
    if k < j then Store.put dflt k v ((j, w) :: rest)
    else if k = j then Store.put dflt k v rest
    else (j, w) :: Store.set dflt k v rest

/-- The canonical form holds. -/
def Store.wf {α : Type} [DecidableEq α] (dflt : α) : Store α → Bool
  | [] => true
  | (j, v) :: rest => decide (v ≠ dflt) && rest.all (fun e => decide (j < e.1)) && Store.wf dflt rest

/-- Physical memory: the listed bytes; an unlisted byte reads `unwrittenByte`. -/
abbrev Memory := List Host.Cell

/-- What a byte that nothing has written reads as (20_memory R82; DESIGN CHOICE, log 5). -/
def unwrittenByte : Byte := 0

/-- One byte of physical memory. -/
def Memory.read (m : Memory) (pa : Nat) : Byte := Store.get unwrittenByte pa m

/-- Write one byte of physical memory. -/
def Memory.write (m : Memory) (pa : Nat) (b : Byte) : Memory := Store.set unwrittenByte pa b m

/-- Write bytes to the physical addresses given, in order. -/
def Memory.writeAll (m : Memory) : List Nat → List Byte → Memory
  | pa :: pas, b :: bs => Memory.writeAll (m.write pa b) pas bs
  | _, _ => m

/-- The canonical form of memory holds. -/
def Memory.wf (m : Memory) : Bool := Store.wf unwrittenByte m

end Sys2Proof.Machine
end

