-- ==== Sys2Proof/Machine/State.lean ====
section
/-! DEFINITION. The machine's state as plain data (10_state), its state after reset (70_reset R580, R581), and the
reasons a step can stop. -/

namespace Sys2Proof.Machine

/-! ## Pieces of state -/

/-- Operating mode (10_state R28): 64-bit, compatibility, protected (legacy), virtual-8086, real-address. -/
inductive Mode where
  | long64 | compat | legacy | v86 | real
  deriving DecidableEq, Repr

/-- VMX operation (10_state R28). -/
inductive VmxMode where
  | off | root | nonRoot
  deriving DecidableEq, Repr

/-- What a segment register adds and allows (10_state R29). -/
structure SegReg where
  base : QWord
  limit : DWord
  deriving DecidableEq, Repr

/-- The segment registers, and CS.D (10_state R29, 30_encoding R142). -/
structure Segments where
  es : SegReg
  cs : SegReg
  ss : SegReg
  ds : SegReg
  fs : SegReg
  gs : SegReg
  csD : Bool
  deriving DecidableEq, Repr

/-- TILECFG (10_state R45): rows and bytes per row of the eight tiles. -/
structure TileCfg where
  palette : Byte
  startRow : Byte
  rows : Vector Byte 8
  colsb : Vector (BitVec 16) 8
  deriving DecidableEq, Repr

/-- The user timer (10_state R73): deadline (0 disarmed), vector, pending user-timer event. -/
structure UserTimer where
  deadline : QWord
  vector : BitVec 6
  pending : Bool
  deriving DecidableEq, Repr

/-- The guest timer (10_state R73, R74; 60 R530 to R532): its VM-execution control, deadline and shadow, the virtual
timer vector, VIRR, RVI, pending guest-timer event. -/
structure GuestTimer where
  control : Bool
  deadline : QWord
  shadow : QWord
  vector : Byte
  virr : BitVec 256
  rvi : Byte
  pending : Bool
  deriving DecidableEq, Repr

/-- How a key-table entry encrypts (10_state R70): `unset` is "the TME key" in the TME-MK table and "not valid" in
the TSE table. -/
inductive KeyMode where
  | unset | encrypt | noEncrypt
  deriving DecidableEq, Repr

/-- An entry of a key table whose keys have `w` bits: 512 in the TME-MK table (43 R265), 256 in the TSE table (10_state
R70). -/
structure KeyEntry (w : Nat) where
  mode : KeyMode
  alg : BitVec 16
  dataKey : BitVec w
  tweakKey : BitVec w
  deriving DecidableEq, Repr

/-- The entry of a KeyID that nothing has programmed. -/
def KeyEntry.unset {w : Nat} : KeyEntry w := ⟨.unset, 0, 0, 0⟩

/-- The entry of a KeyID programmed with no encryption; it uses no algorithm and no keys (43 R264, R266; log 45). -/
def KeyEntry.noEncrypt {w : Nat} : KeyEntry w := ⟨.noEncrypt, 0, 0, 0⟩

/-- The monitor hardware (10_state R72): an armed range is `size` bytes from `base`. That they are physical addresses, and
that a store is seen by its physical address, is the model's choice (DESIGN CHOICE, log 32). -/
inductive Monitor where
  | idle
  | armed (base size : Nat)
  | triggered
  deriving DecidableEq, Repr

/-- The activity state (10_state R72, 60 R503). An MWAIT wait keeps what decides when it ends (49 R472, R473):
monitorless, masked interrupts break it, its hint asks for more than C1. -/
inductive Activity where
  | active
  | hlt
  | mwait (monitorless intrBreak deep : Bool)
  | tpause
  | umwait
  deriving DecidableEq, Repr

/-- The function of a remote atomic update (41_rao R212 to R215). -/
inductive RaoOp where
  | add | bitAnd | bitOr | bitXor
  deriving DecidableEq, Repr

/-- A queued `RaoUpdate` (10_state R75): `size` bytes at physical address `pa`. -/
structure RaoUpdate where
  op : RaoOp
  pa : Nat
  size : Nat
  src : QWord
  deriving DecidableEq, Repr

/-- The VMCS contents the rules consult (10_state R74, 60 R524, R545, R546). A bitmap is the list of its set bits.
"Enable user-level MSR access" is held as R74 names it; no rule reads it, since 44 R310 says that no new control
exists. -/
structure Vmcs where
  useMsrBitmaps : Bool
  readLow : List Nat
  readHigh : List Nat
  writeLow : List Nat
  writeHigh : List Nat
  enablePconfig : Bool
  pconfigExiting : QWord
  enableMsrList : Bool
  mwaitExiting : Bool
  rdtscExiting : Bool
  enableUserMsr : Bool
  useTscOffset : Bool
  tscOffset : QWord
  useTscScaling : Bool
  tscMultiplier : QWord
  saveSpecCtrl : Bool
  loadGuestSpecCtrl : Bool
  loadHostSpecCtrl : Bool
  guestSpecCtrl : QWord
  hostSpecCtrl : QWord
  deriving DecidableEq, Repr

/-- What the environment does at an instruction boundary (00_scope R12d, 60 R488, R502; log 8). -/
inductive Event where
  /-- An external maskable interrupt. -/
  | interrupt (vector : Byte)
  | nmi
  | smi
  | init
  | reset
  /-- A performance-monitoring interrupt (60 R488). -/
  | pmi (vector : Byte)
  /-- A #DB that no debug register causes. -/
  | debug
  | machineCheck
  /-- A user interrupt is posted to UIRR. -/
  | userInterrupt (vector : BitVec 6)
  /-- Another processor, or a device (`processor` false), stores bytes from `pa` on, in one step (20_memory R87). -/
  | store (pa : Nat) (bytes : List Byte) (processor : Bool)
  /-- Another processor's PCONFIG programs an entry of a shared key table (60 R502, 10_state R70). -/
  | tmeKey (keyId : Nat) (entry : KeyEntry 512)
  | tseKey (keyId : Nat) (entry : KeyEntry 256)
  /-- Another logical processor writes IA32_QoS_Core_BW_Thrtl_n, where its scope is wider than a logical processor
  (60 R502, R570). -/
  | throttle (n : Fin 2) (value : QWord)
  /-- A wait ends without an event (49 R472). -/
  | wake
  /-- The pending user-timer event is processed (60 R522). -/
  | userTimer
  /-- The pending guest-timer event is processed (60 R532). -/
  | guestTimer
  /-- The pending virtual interrupt is delivered (60 R532). -/
  | virtualInterrupt
  /-- An event that general-purpose counter `n` counts occurs, or the counter overflows: an input of the trace
  triggers (60 R563). -/
  | perfEvent (n : Nat)
  | perfOverflow (n : Nat)
  /-- A PEBS record is written, with the Counters and Metrics groups selected or not (60 R553; the positions of the
  two selections are lost, log 52). -/
  | pebsRecord (counters metrics : Bool)
  deriving DecidableEq, Repr

/-- How an iteration of RDMSRLIST or WRMSRLIST loads its table entries (44 R293, 93 U22; log 13). -/
inductive ListLoad where
  /-- At its turn. -/
  | inTurn
  /-- At the start of an earlier iteration: so many iterations back, for each of the two tables. -/
  | early (address data : Nat)
  /-- The iteration takes the fault that a later valid entry's access to the address table, or to the data table, would
  raise. -/
  | faultOf (entry : BitVec 6) (dataTable : Bool)
  deriving DecidableEq, Repr

/-- The Counters group of a PEBS record (60 R553): its bit vectors, then the values captured, in the order of the
table. -/
structure PebsCounters where
  pmc : DWord
  fixed : DWord
  metrics : DWord
  values : List QWord
  deriving DecidableEq, Repr

/-- The environment's choices still to come, oldest first (logs 8 to 13). -/
structure Env where
  /-- TSC ticks that pass before each step. -/
  ticks : List Nat
  /-- The events at each instruction boundary, in order; none at a quiet one. -/
  events : List (List Event)
  /-- Whether PCONFIG finds the key-table lock taken (92 D18). -/
  lockBusy : List Bool
  /-- Whether the random-number source is short of entropy (93 U28). -/
  entropyShort : List Bool
  /-- Which pending RAO updates are performed at each boundary, by position, in this order. -/
  raoPicks : List (List Nat)
  /-- How each iteration of RDMSRLIST or WRMSRLIST loads its entries (44 R293). -/
  loadAhead : List ListLoad
  /-- Whether a monitorless MWAIT disarms an armed monitor (49 R473, 93 U18). -/
  monitorLost : List Bool
  deriving DecidableEq, Repr

/-- The machine: `INVENTORY.md` lists every field with its rule. -/
structure State where
  /-- RAX, RCX, RDX, RBX, RSP, RBP, RSI, RDI, R8 to R15 (10_state R21). -/
  gpr : Vector QWord 16
  /-- The instruction pointer (10_state R24). -/
  rip : QWord
  /-- The instruction before RIP ended at FFFFFFFFFFFFFFFFH, so that RIP is the wrapped address (10_state R25,
  92 D14). -/
  ripWrapped : Bool
  /-- NextRIP, set when an instruction is decoded (10_state R25). -/
  nextRip : QWord
  /-- RFLAGS (10_state R26). -/
  rflags : QWord
  mode : Mode
  cpl : BitVec 2
  vmx : VmxMode
  smm : Bool
  enclave : Bool
  /-- SECS.ATTRIBUTES.LAM_U48 (20_memory R109). -/
  secsLamU48 : Bool
  /-- SECS.ATTRIBUTES.LAM_U57 (20_memory R109). -/
  secsLamU57 : Bool
  segs : Segments
  cr0 : QWord
  cr2 : QWord
  cr3 : QWord
  cr4 : QWord
  xcr0 : QWord
  dr0 : QWord
  dr1 : QWord
  dr2 : QWord
  dr3 : QWord
  dr7 : QWord
  /-- The user-interrupt flag (10_state R33). -/
  uif : Bool
  mxcsr : DWord
  /-- The vector registers (10_state R40), held 512 bits wide (log 14). -/
  vregs : Vector Vec 16
  tilecfg : TileCfg
  /-- TMM0 to TMM7, sixteen rows of 64 bytes each (10_state R45). -/
  tiles : Vector (Vector Vec 16) 8
  /-- The MSRs without a field of their own, by address; unlisted ones hold 0 (10_state R55 to R69). -/
  msrs : Store QWord
  /-- The time-stamp counter (10_state R67). -/
  tsc : QWord
  userTimer : UserTimer
  /-- The user-interrupt requests (60 R522). -/
  uirr : QWord
  guestTimer : GuestTimer
  /-- IA32_FIXED_CTR0 (60 R551). -/
  fixedCtr0 : QWord
  /-- The performance counters count (60 R551, log 19). -/
  pmuRunning : Bool
  /-- The TME-MK key table by KeyID (10_state R70). -/
  tmeKeys : Store (KeyEntry 512)
  /-- The TSE key table by KeyID (10_state R70). -/
  tseKeys : Store (KeyEntry 256)
  monitor : Monitor
  activity : Activity
  /-- The last step stopped between iterations of RDMSRLIST or WRMSRLIST with entries left (44 R294; 10_state R26). -/
  midList : Bool
  /-- The data breakpoints that the accesses of the last instruction matched (60 R565; log 54). -/
  matched : List (Fin 4)
  /-- Remote atomic updates issued and not yet performed (10_state R75). -/
  rao : List RaoUpdate
  vmcs : Vmcs
  /-- Physical memory. -/
  mem : Memory
  platform : Platform
  env : Env
  /-- The Counters groups of the PEBS records written, the last one last (60 R553; the model's own field, log 52). -/
  pebs : List PebsCounters
  /-- How many free values have been drawn (log 11). -/
  draws : Nat
  deriving DecidableEq, Repr

/-! ## Why a step stops -/

/-- The exceptions of 60 R480. No instruction raises #DB and #MC, which are events (R480), nor #XM (R482), nor #CP
(92 D6). -/
inductive Exc where
  | db | ud | nm | ss | gp | pf | ac | mc | xm | cp
  deriving DecidableEq, Repr

/-- The vector number of an exception (60 R480). -/
def Exc.vector : Exc → Nat
  | .db => 1 | .ud => 6 | .nm => 7 | .ss => 12 | .gp => 13 | .pf => 14 | .ac => 17 | .mc => 18 | .xm => 19 | .cp => 21

/-- What was about to be delivered (60 R485, R488). -/
inductive Delivery where
  | interrupt (vector : Byte)
  | nmi | smi | init | reset
  | pmi (vector : Byte)
  /-- #DB or #MC. -/
  | exception (e : Exc)
  | userInterrupt (vector : BitVec 6)
  | virtualInterrupt (vector : Byte)
  /-- A guest-timer event in enclave mode: an asynchronous enclave exit comes first (60 R535). -/
  | enclaveExit
  deriving DecidableEq, Repr

/-- The terminal outcomes of a step. Each keeps the state it left, in which partial progress shows (60 R483). -/
inductive Fault where
  /-- An instruction raised an exception; its delivery is in no source (60 R485, 92 D2). Raised by every rule that
  says `raise`. Safe: the processor goes on in a handler, the model stops. -/
  | exception (e : Exc) (code : DWord) (rip : QWord) (s : State)
  /-- A VM exit (60 R540). Safe: the processor goes on in the VMM, the model stops. -/
  | vmExit (reason : Nat) (qualification : QWord) (length : QWord) (info : DWord) (s : State)
  /-- An interrupt or exit of the environment is delivered, which no source describes (60 R485, R488). Safe. -/
  | delivered (d : Delivery) (s : State)
  /-- A physical address at or above 2^MAXPHYADDR, which does not exist (20_memory R81; log 48). Safe. -/
  | noPhysicalAddress (pa : Nat) (s : State)
  deriving DecidableEq, Repr

/-- Why the model gives no meaning. All are safe: the processor goes on where the model stops. -/
inductive Refusal where
  /-- An instruction of the table whose arm has no meaning yet; raised by no arm of this model. -/
  | notModelled (mnemonic : String)
  /-- An encoding outside the opcode table (30_encoding R144); raised by the step. -/
  | outsideSpec
  /-- An EVEX encoding (30_encoding R143); raised by the step. -/
  | evex
  /-- 16-bit addressing (30_encoding R131); raised by the step. -/
  | addr16
  /-- More than one of 66, F2, F3 (30_encoding R133); raised by the step. -/
  | severalMandatory
  /-- A REX byte not immediately before the opcode (30_encoding R134; log 28); raised by the step. -/
  | rexMisplaced
  /-- A remote atomic operation on memory that is not write-back (41_rao R220, 93 U5); raised by the RAO
  instructions. -/
  | raoNotWriteBack
  /-- A bind structure with a non-zero input MAC or IV (43 R258, 93 U10); raised by PBNDKB. -/
  | pbndkbInputMacIv
  deriving DecidableEq, Repr

/-! ## Reset -/

/-- A segment register at reset (70_reset R581; PRESUMED, log 1). -/
def resetSeg : SegReg := ⟨0, 0xFFFF⟩

/-- The segment registers at reset: the first fetch is at FFFFFFF0H (70_reset R581). -/
def resetSegments : Segments := ⟨resetSeg, ⟨0xFFFF0000, 0xFFFF⟩, resetSeg, resetSeg, resetSeg, resetSeg, false⟩

/-- No VMX control set (log 2). -/
def resetVmcs : Vmcs :=
  ⟨false, [], [], [], [], false, 0, false, false, false, false, false, 0, false, 0, false, false, false, 0, 0⟩

/-- TILECFG in the INIT state (70_reset R582). -/
def resetTileCfg : TileCfg := ⟨0, 0, Vector.replicate 8 0, Vector.replicate 8 0⟩

/-- The MSRs that are not 0 at reset: IA32_CORE_CAPABILITIES, IA32_MISC_ENABLE, IA32_PERF_CAPABILITIES,
IA32_TME_CAPABILITY, IA32_TSE_CAPABILITY (bit 0 is of 43 R272; 64 keys, and 0 in every other bit, are a DESIGN CHOICE,
since its other fields are lost); IA32_PMC_FXm_CFG_B and every other MSR are 0 (logs 2, 3). -/
def resetMsrValues : Store QWord :=
  [(0xCF, 0x20), (0x1A0, 0x40000), (0x345, 0x20600), (0x981, 1), (addrTseCapability, 0x40000000001)]

/-- An environment that does nothing (log 12). -/
def resetEnv : Env := ⟨[], [], [], [], [], [], []⟩

/-- The machine right after reset (70_reset R580 to R582; logs 1, 2, 3). The counters do not count (`pmuRunning`): a
DESIGN CHOICE, since their enabling is lost (log 19). No user-timer event is pending: a DESIGN CHOICE (log 2). -/
def State.reset : State where
  gpr := (Vector.replicate 16 0).set 2 0x000C0662
  rip := 0xFFF0
  ripWrapped := false
  nextRip := 0xFFF0
  rflags := 2
  mode := .real
  cpl := 0
  vmx := .off
  smm := false
  enclave := false
  secsLamU48 := false
  secsLamU57 := false
  segs := resetSegments
  cr0 := 0x60000010
  cr2 := 0
  cr3 := 0
  cr4 := 0
  xcr0 := 1
  dr0 := 0
  dr1 := 0
  dr2 := 0
  dr3 := 0
  dr7 := 0x400
  uif := false
  mxcsr := 0x1F80
  vregs := Vector.replicate 16 0
  tilecfg := resetTileCfg
  tiles := Vector.replicate 8 (Vector.replicate 16 0)
  msrs := resetMsrValues
  tsc := 0
  userTimer := ⟨0, 0, false⟩
  uirr := 0
  guestTimer := ⟨false, 0, 0, 0, 0, 0, false⟩
  fixedCtr0 := 0
  pmuRunning := false
  tmeKeys := []
  tseKeys := []
  monitor := .idle
  activity := .active
  midList := false
  matched := []
  rao := []
  vmcs := resetVmcs
  mem := []
  platform := resetPlatform
  env := resetEnv
  pebs := []
  draws := 0

end Sys2Proof.Machine
end

