-- ==== Sys2Proof/Machine/Enumeration.lean ====
section
/-! DEFINITION. What CPUID answers in a state, and the feature flags the rules read (40_cpuid). -/

namespace Sys2Proof.Machine

/-- Bit `n` of `v` set to `b`. -/
def withBit {w : Nat} (v : BitVec w) (n : Nat) (b : Bool) : BitVec w :=
  if b then v ||| BitVec.twoPow w n else v &&& ~~~BitVec.twoPow w n

/-- The row of `CPUID_TABLE` for a leaf and sub-leaf, if the table lists one. -/
def cpuidRow (p : Platform) (leaf sub : DWord) : Option CpuidRow :=
  p.cpuid.find? fun r =>
    r.leaf == leaf && (match r.sub with | none => true | some n => n == sub)

/-- A row of zeros. -/
def zeroRow (leaf sub : DWord) : CpuidRow := ⟨leaf, some sub, 0, 0, 0, 0⟩

/-- The row, or zeros. -/
def cpuidRowOrZero (p : Platform) (leaf sub : DWord) : CpuidRow := (cpuidRow p leaf sub).getD (zeroRow leaf sub)

/-- The highest basic leaf (40_cpuid R174). -/
def maxBasicLeaf (p : Platform) : DWord := (cpuidRowOrZero p 0 0).eax

/-- The highest extended leaf (40_cpuid R175). -/
def maxExtendedLeaf (p : Platform) : DWord := (cpuidRowOrZero p 0x80000000 0).eax

/-- A leaf the processor recognizes (40_cpuid R172). -/
def leafInRange (p : Platform) (leaf : DWord) : Bool :=
  decide (leaf.toNat ≤ (maxBasicLeaf p).toNat) ||
    (decide (0x80000000 ≤ leaf.toNat) && decide (leaf.toNat ≤ (maxExtendedLeaf p).toNat))

/-- `CPUID_TABLE` before the bits that follow the state: a leaf out of range gives the data of the highest basic
leaf (40_cpuid R172). -/
def cpuidStatic (p : Platform) (leaf sub : DWord) : CpuidRow :=
  if leafInRange p leaf then cpuidRowOrZero p leaf sub else cpuidRowOrZero p (maxBasicLeaf p) sub

/-- IA32_MISC_ENABLE.ENABLE_MONITOR_FSM (49 R470). -/
def monitorEnabled (s : State) : Bool := (Store.get 0 0x1A0 s.msrs).getLsbD 18

/-- End of the XSAVE component `i` where XCR0 enables it: its offset plus its size. The spec gives the size, EAX
(48_amx R416, R426); that EBX of the sub-leaf is the offset is PRESUMED (log 29). -/
def xsaveEnd (s : State) (i : Nat) : Nat :=
  if s.xcr0.getLsbD i then
    let r := cpuidRowOrZero s.platform 0xD (BitVec.ofNat 32 i)
    r.eax.toNat + r.ebx.toNat
  else 0

/-- CPUID.0DH.0:EBX, the size of the XSAVE area that XCR0 asks for: the legacy area and header are 576 bytes
(40_cpuid R183, R195; log 29). -/
def xsaveSize (s : State) : Nat :=
  (List.range 17).foldl (fun a i => max a (xsaveEnd s (i + 2))) 576

/-- What CPUID returns in a state: OSXSAVE mirrors CR4, the MONITOR and MWAIT flags and leaf 5 follow
IA32_MISC_ENABLE, leaf 0DH follows XCR0 (40_cpuid R195, R196; 49 R470). -/
def cpuidQuery (s : State) (leaf sub : DWord) : CpuidRow :=
  let r := cpuidStatic s.platform leaf sub
  if r.leaf = 1 then
    let e := withBit r.ecx 27 (s.cr4.getLsbD 18)
    { r with ecx := if monitorEnabled s then e else withBit e 3 false }
  else if r.leaf = 5 ∧ !monitorEnabled s then zeroRow leaf sub
  else if r.leaf = 7 ∧ r.sub = some 1 ∧ !monitorEnabled s then { r with edx := withBit r.edx 23 false }
  else if r.leaf = 0xD ∧ r.sub = some 0 then { r with ebx := BitVec.ofNat 32 (xsaveSize s) }
  else r

/-- The feature flags of 40_cpuid R190 and R191 that the rules read. -/
inductive Feature where
  | monitor | avx | uintr | pconfig
  | sha512 | sm3 | sm4 | raoInt | cmpccxadd | wrmsrns | amxFp16 | avxIfma | msrList
  | pbndkb
  | vnniInt8 | avxNeConvert | amxComplex | vnniInt16 | userMsr | uiretUif | mwait
  | ucLockAc
  | intrBreak | monitorlessMwait
  deriving DecidableEq, Repr

/-- The output register of CPUID a flag stands in. -/
inductive CpuidReg where
  | eax | ebx | ecx | edx
  deriving DecidableEq, Repr

/-- Leaf, sub-leaf, register and bit of a feature flag (40_cpuid R177, R190, R191, R196; UINTR and the interrupt-break
extension of leaf 05H: log 30). -/
def Feature.position : Feature → DWord × DWord × CpuidReg × Nat
  | .monitor => (1, 0, .ecx, 3)
  | .avx => (1, 0, .ecx, 28)
  | .uintr => (7, 0, .edx, 5)
  | .pconfig => (7, 0, .edx, 18)
  | .sha512 => (7, 1, .eax, 0)
  | .sm3 => (7, 1, .eax, 1)
  | .sm4 => (7, 1, .eax, 2)
  | .raoInt => (7, 1, .eax, 3)
  | .cmpccxadd => (7, 1, .eax, 7)
  | .wrmsrns => (7, 1, .eax, 19)
  | .amxFp16 => (7, 1, .eax, 21)
  | .avxIfma => (7, 1, .eax, 23)
  | .msrList => (7, 1, .eax, 27)
  | .pbndkb => (7, 1, .ebx, 1)
  | .vnniInt8 => (7, 1, .edx, 4)
  | .avxNeConvert => (7, 1, .edx, 5)
  | .amxComplex => (7, 1, .edx, 8)
  | .vnniInt16 => (7, 1, .edx, 10)
  | .userMsr => (7, 1, .edx, 15)
  | .uiretUif => (7, 1, .edx, 17)
  | .mwait => (7, 1, .edx, 23)
  | .ucLockAc => (7, 2, .edx, 6)
  | .intrBreak => (5, 0, .ecx, 1)
  | .monitorlessMwait => (5, 0, .ecx, 3)

/-- One output register of a row. -/
def CpuidRow.reg (r : CpuidRow) : CpuidReg → DWord
  | .eax => r.eax
  | .ebx => r.ebx
  | .ecx => r.ecx
  | .edx => r.edx

/-- The flag is 1 (00_scope R11). -/
def enumerated (s : State) (f : Feature) : Bool :=
  ((cpuidQuery s f.position.1 f.position.2.1).reg f.position.2.2.1).getLsbD f.position.2.2.2

/-- `MAXPHYADDR`: CPUID.80000008H:EAX[7:0] (00_scope R5). -/
def maxPhyAddr (s : State) : Nat := (cpuidQuery s 0x80000008 0).eax.toNat % 256

/-- The cache-line size in bytes: CPUID.01H:EBX[15:8], "in 8-byte increments" (40_cpuid R176). -/
def lineSize (s : State) : Nat := 8 * ((cpuidQuery s 1 0).ebx.toNat / 256 % 256)

/-- CPUID leaf 1BH enumerates a PCONFIG target: EAX[11:0] = 1 marks a list of identifiers in EBX, ECX, EDX
(43 R262; log 31). -/
def pconfigTarget (s : State) (id : Nat) : Bool :=
  (List.range 4).any fun i =>
    let r := cpuidQuery s 0x1B (BitVec.ofNat 32 i)
    r.leaf == 0x1B && r.eax.toNat % 4096 == 1 &&
      (r.ebx.toNat == id || r.ecx.toNat == id || r.edx.toNat == id)

/-! ## AMX limits (00_scope R5) -/

/-- What a palette allows: tiles, rows of a tile, bytes of a row. -/
structure PaletteLimits where
  names : Nat
  rows : Nat
  bytesPerRow : Nat
  deriving DecidableEq, Repr

/-- The entry of `palette_table`: palette 1 is fixed; any other is what sub-leaf `id` of CPUID leaf 1DH says, as far as
the tiles of this state reach (00_scope R5, 40_cpuid R192; layout: log 53). -/
def paletteLimits (s : State) (id : Nat) : PaletteLimits :=
  if id = 1 then ⟨8, 16, 64⟩
  else
    let r := cpuidQuery s 0x1D (BitVec.ofNat 32 id)
    if r.leaf = 0x1D then
      ⟨min 8 (r.ebx.toNat / 2 ^ 16), min 16 (r.ecx.toNat % 2 ^ 16), min 64 (r.ebx.toNat % 2 ^ 16)⟩
    else ⟨0, 0, 0⟩

/-- `TMUL_MAXK`: CPUID.1EH.0:EBX[7:0] (00_scope R5, 40_cpuid R192; layout: log 53). -/
def tmulMaxK (s : State) : Nat := (cpuidQuery s 0x1E 0).ebx.toNat % 2 ^ 8

/-- `TMUL_MAXN`: CPUID.1EH.0:EBX[23:8] (00_scope R5, 40_cpuid R192; layout: log 53). -/
def tmulMaxN (s : State) : Nat := (cpuidQuery s 0x1E 0).ebx.toNat / 2 ^ 8 % 2 ^ 16

end Sys2Proof.Machine
end

