-- ==== Sys2Proof/Syntax.lean ====
section
/-! DEFINITION. Instructions: one constructor per row of the opcode table (30_encoding R150 to R158), and their
operands (R136, R137, R141). -/

namespace Sys2Proof

/-- A segment-override prefix (30_encoding R132). -/
inductive Seg where
  | es | cs | ss | ds | fs | gs
  deriving DecidableEq, Repr

/-- The address a memory ModRM forms (30_encoding R137). A `disp8` stands sign-extended in `disp`. -/
inductive EffAddr where
  /-- NextRIP + disp32: ModRM.MOD = 00, RM = 101 in 64-bit mode. -/
  | ripRel (disp : DWord)
  /-- base + index * 2^scale + disp, base or index possibly absent. -/
  | sib (base index : Option RegNum) (scale : BitVec 2) (disp : DWord)
  deriving DecidableEq, Repr

/-- A memory operand: the last segment override, whether a 67 prefix stood before it, and the address form. -/
structure MemOp where
  seg : Option Seg
  addr32 : Bool
  ea : EffAddr
  deriving DecidableEq, Repr

/-- A register-or-memory operand (ModRM.RM, 30_encoding R136). -/
inductive RM where
  | reg (r : RegNum)
  | mem (m : MemOp)
  deriving DecidableEq, Repr

/-- One constructor per row of `opcode_table.json`: a digit suffix tells the rows of one mnemonic apart by operand
width (32, 64) or vector length (128, 256), `Reg` and `Imm` the two forms of URDMSR and UWRMSR. -/
inductive Instr where
  | cpuid
  | aadd32 (dst : MemOp) (src : RegNum)
  | aadd64 (dst : MemOp) (src : RegNum)
  | aand32 (dst : MemOp) (src : RegNum)
  | aand64 (dst : MemOp) (src : RegNum)
  | aor32 (dst : MemOp) (src : RegNum)
  | aor64 (dst : MemOp) (src : RegNum)
  | axor32 (dst : MemOp) (src : RegNum)
  | axor64 (dst : MemOp) (src : RegNum)
  | cmpoxadd32 (m : MemOp) (a : RegNum) (b : RegNum)
  | cmpoxadd64 (m : MemOp) (a : RegNum) (b : RegNum)
  | cmpnoxadd32 (m : MemOp) (a : RegNum) (b : RegNum)
  | cmpnoxadd64 (m : MemOp) (a : RegNum) (b : RegNum)
  | cmpbxadd32 (m : MemOp) (a : RegNum) (b : RegNum)
  | cmpbxadd64 (m : MemOp) (a : RegNum) (b : RegNum)
  | cmpnbxadd32 (m : MemOp) (a : RegNum) (b : RegNum)
  | cmpnbxadd64 (m : MemOp) (a : RegNum) (b : RegNum)
  | cmpzxadd32 (m : MemOp) (a : RegNum) (b : RegNum)
  | cmpzxadd64 (m : MemOp) (a : RegNum) (b : RegNum)
  | cmpnzxadd32 (m : MemOp) (a : RegNum) (b : RegNum)
  | cmpnzxadd64 (m : MemOp) (a : RegNum) (b : RegNum)
  | cmpbexadd32 (m : MemOp) (a : RegNum) (b : RegNum)
  | cmpbexadd64 (m : MemOp) (a : RegNum) (b : RegNum)
  | cmpnbexadd32 (m : MemOp) (a : RegNum) (b : RegNum)
  | cmpnbexadd64 (m : MemOp) (a : RegNum) (b : RegNum)
  | cmpsxadd32 (m : MemOp) (a : RegNum) (b : RegNum)
  | cmpsxadd64 (m : MemOp) (a : RegNum) (b : RegNum)
  | cmpnsxadd32 (m : MemOp) (a : RegNum) (b : RegNum)
  | cmpnsxadd64 (m : MemOp) (a : RegNum) (b : RegNum)
  | cmppxadd32 (m : MemOp) (a : RegNum) (b : RegNum)
  | cmppxadd64 (m : MemOp) (a : RegNum) (b : RegNum)
  | cmpnpxadd32 (m : MemOp) (a : RegNum) (b : RegNum)
  | cmpnpxadd64 (m : MemOp) (a : RegNum) (b : RegNum)
  | cmplxadd32 (m : MemOp) (a : RegNum) (b : RegNum)
  | cmplxadd64 (m : MemOp) (a : RegNum) (b : RegNum)
  | cmpnlxadd32 (m : MemOp) (a : RegNum) (b : RegNum)
  | cmpnlxadd64 (m : MemOp) (a : RegNum) (b : RegNum)
  | cmplexadd32 (m : MemOp) (a : RegNum) (b : RegNum)
  | cmplexadd64 (m : MemOp) (a : RegNum) (b : RegNum)
  | cmpnlexadd32 (m : MemOp) (a : RegNum) (b : RegNum)
  | cmpnlexadd64 (m : MemOp) (a : RegNum) (b : RegNum)
  | pconfig
  | wrmsrns
  | rdmsrlist
  | wrmsrlist
  | pbndkb
  | mwait
  | uiret
  | urdmsrReg (dst : RegNum) (addr : RegNum)
  | urdmsrImm (dst : RegNum) (imm : DWord)
  | uwrmsrReg (addr : RegNum) (src : RegNum)
  | uwrmsrImm (imm : DWord) (src : RegNum)
  | vpdpbssd128 (d : RegNum) (a : RegNum) (b : RM)
  | vpdpbssd256 (d : RegNum) (a : RegNum) (b : RM)
  | vpdpbssds128 (d : RegNum) (a : RegNum) (b : RM)
  | vpdpbssds256 (d : RegNum) (a : RegNum) (b : RM)
  | vpdpbsud128 (d : RegNum) (a : RegNum) (b : RM)
  | vpdpbsud256 (d : RegNum) (a : RegNum) (b : RM)
  | vpdpbsuds128 (d : RegNum) (a : RegNum) (b : RM)
  | vpdpbsuds256 (d : RegNum) (a : RegNum) (b : RM)
  | vpdpbuud128 (d : RegNum) (a : RegNum) (b : RM)
  | vpdpbuud256 (d : RegNum) (a : RegNum) (b : RM)
  | vpdpbuuds128 (d : RegNum) (a : RegNum) (b : RM)
  | vpdpbuuds256 (d : RegNum) (a : RegNum) (b : RM)
  | vpdpwsud128 (d : RegNum) (a : RegNum) (b : RM)
  | vpdpwsud256 (d : RegNum) (a : RegNum) (b : RM)
  | vpdpwsuds128 (d : RegNum) (a : RegNum) (b : RM)
  | vpdpwsuds256 (d : RegNum) (a : RegNum) (b : RM)
  | vpdpwusd128 (d : RegNum) (a : RegNum) (b : RM)
  | vpdpwusd256 (d : RegNum) (a : RegNum) (b : RM)
  | vpdpwusds128 (d : RegNum) (a : RegNum) (b : RM)
  | vpdpwusds256 (d : RegNum) (a : RegNum) (b : RM)
  | vpdpwuud128 (d : RegNum) (a : RegNum) (b : RM)
  | vpdpwuud256 (d : RegNum) (a : RegNum) (b : RM)
  | vpdpwuuds128 (d : RegNum) (a : RegNum) (b : RM)
  | vpdpwuuds256 (d : RegNum) (a : RegNum) (b : RM)
  | vpmadd52huq128 (d : RegNum) (a : RegNum) (b : RM)
  | vpmadd52huq256 (d : RegNum) (a : RegNum) (b : RM)
  | vpmadd52luq128 (d : RegNum) (a : RegNum) (b : RM)
  | vpmadd52luq256 (d : RegNum) (a : RegNum) (b : RM)
  | tdpfp16ps (d : RegNum) (a : RegNum) (b : RegNum)
  | tcmmimfp16ps (d : RegNum) (a : RegNum) (b : RegNum)
  | tcmmrlfp16ps (d : RegNum) (a : RegNum) (b : RegNum)
  | vcvtneps2bf16128 (d : RegNum) (b : RM)
  | vcvtneps2bf16256 (d : RegNum) (b : RM)
  | vcvtneebf162ps128 (d : RegNum) (m : MemOp)
  | vcvtneebf162ps256 (d : RegNum) (m : MemOp)
  | vcvtneeph2ps128 (d : RegNum) (m : MemOp)
  | vcvtneeph2ps256 (d : RegNum) (m : MemOp)
  | vcvtneobf162ps128 (d : RegNum) (m : MemOp)
  | vcvtneobf162ps256 (d : RegNum) (m : MemOp)
  | vcvtneoph2ps128 (d : RegNum) (m : MemOp)
  | vcvtneoph2ps256 (d : RegNum) (m : MemOp)
  | vbcstnebf162ps128 (d : RegNum) (m : MemOp)
  | vbcstnebf162ps256 (d : RegNum) (m : MemOp)
  | vbcstnesh2ps128 (d : RegNum) (m : MemOp)
  | vbcstnesh2ps256 (d : RegNum) (m : MemOp)
  | vsha512rnds2 (d : RegNum) (a : RegNum) (b : RegNum)
  | vsha512msg1 (d : RegNum) (b : RegNum)
  | vsha512msg2 (d : RegNum) (b : RegNum)
  | vsm3msg1 (d : RegNum) (a : RegNum) (b : RM)
  | vsm3msg2 (d : RegNum) (a : RegNum) (b : RM)
  | vsm3rnds2 (d : RegNum) (a : RegNum) (b : RM) (imm : Byte)
  | vsm4key4128 (d : RegNum) (a : RegNum) (b : RM)
  | vsm4key4256 (d : RegNum) (a : RegNum) (b : RM)
  | vsm4rnds4128 (d : RegNum) (a : RegNum) (b : RM)
  | vsm4rnds4256 (d : RegNum) (a : RegNum) (b : RM)
  | prefetchnta (m : MemOp)
  | prefetcht0 (m : MemOp)
  | prefetcht1 (m : MemOp)
  | prefetcht2 (m : MemOp)
  | prefetchit1 (m : MemOp)
  | prefetchit0 (m : MemOp)
  deriving DecidableEq, Repr

end Sys2Proof
end

