-- ==== Sys2Proof/Machine/Ops.lean ====
section
/-! DEFINITION. The named operations over registers and memory: how an instruction stops (60_exceptions), registers
(10_state), the address pipeline (20_memory R95 to R117), stores, remote atomic updates (41_rao R217), free values. -/

namespace Sys2Proof.Machine

/-! ## Stopping -/

/-- Why an instruction does not complete. -/
inductive Stop where
  /-- `raise #XX(code)` (00_scope R8). -/
  | exc (e : Exc) (code : DWord)
  /-- A page fault for a linear address (20_memory R95 step 5). -/
  | pageFault (la : QWord) (code : DWord)
  /-- `VMexit(reason, qualification)`, with instruction length and information (60 R540). -/
  | vmExit (reason : Nat) (qualification length : QWord) (info : DWord)
  /-- A physical address that does not exist (20_memory R81). -/
  | noPhysical (pa : Nat)
  /-- No meaning in the spec. -/
  | refuse (why : Refusal)
  deriving DecidableEq, Repr

/-- `#UD`. -/
abbrev ud : Stop := .exc .ud 0
/-- `#GP(0)`. -/
abbrev gp0 : Stop := .exc .gp 0

/-- The state a VM exit leaves: IA32_SPEC_CTRL is saved, and the host's loaded, as the controls say (60 R545). -/
def vmExitState (s : State) : State :=
  let saved := if s.vmcs.saveSpecCtrl then
      { s with vmcs := { s.vmcs with guestSpecCtrl := Store.get 0 0x48 s.msrs } } else s
  if s.vmcs.loadHostSpecCtrl then { saved with msrs := Store.set 0 0x48 s.vmcs.hostSpecCtrl s.msrs } else saved

/-- Taking an exception or a VM exit: RIP stays at the instruction and the state is as `s`, but for CR2 at a page
fault; delivery is in no source, so the outcome is terminal (60 R483, R485, R540; 92 D2; log 7). -/
def raise (x : Stop) (s : State) : Host.Outcome State Fault Refusal :=
  match x with
  | .exc e code => .fault (.exception e code s.rip s)
  | .pageFault la code => .fault (.exception .pf code s.rip { s with cr2 := la })
  | .vmExit reason q len info => .fault (.vmExit reason q len info (vmExitState s))
  | .noPhysical pa => .fault (.noPhysicalAddress pa s)
  | .refuse why => .refused why

/-- Go on if `c` holds, else stop with `x`. -/
def need (c : Bool) (x : Stop) : Except Stop Unit := if c then .ok () else .error x

/-- Complete an instruction with RIP at `pc`, an address as it stands: one more retired instruction is counted
(60 R551), modulo 2^64: the spec gives no width at which the counter wraps (DESIGN CHOICE, log 19). -/
def State.retireTo (s : State) (pc : QWord) : State :=
  { s with
    rip := pc
    ripWrapped := false
    fixedCtr0 := if s.pmuRunning then s.fixedCtr0 + 1 else s.fixedCtr0 }

/-- NextRIP lies beyond FFFFFFFFFFFFFFFFH, so that it has wrapped (10_state R25, 92 D14). -/
def State.nextWraps (s : State) : Bool := decide (s.mode = .long64) && decide (s.nextRip.toNat < s.rip.toNat)

/-- Complete an instruction: `RIP <- NextRIP` (10_state R25). -/
def State.retire (s : State) : State := { s.retireTo s.nextRip with ripWrapped := s.nextWraps }

/-- The length of the instruction being executed, as a VM exit reports it. -/
def exitLength (s : State) : QWord := s.nextRip - s.rip

/-- The outcome of an instruction from its checks and effect: it completes, or stops in the state it began in
(60 R483). -/
def settle (s : State) (r : Except Stop State) : Host.Outcome State Fault Refusal :=
  match r with
  | .ok t => .next t.retire
  | .error x => raise x s

/-! ## Registers -/

/-- A general register, all 64 bits (10_state R21). -/
def State.reg (s : State) (r : RegNum) : QWord := s.gpr[r.toNat]'r.isLt

/-- The low 32 bits of a general register. -/
def State.reg32 (s : State) (r : RegNum) : DWord := (s.reg r).setWidth 32

/-- Write a general register (10_state R22). -/
def State.setReg (s : State) (r : RegNum) (v : QWord) : State :=
  { s with gpr := s.gpr.set r.toNat v r.isLt }

/-- Write a 32-bit result: bits 63:32 become 0 (10_state R22). -/
def State.setReg32 (s : State) (r : RegNum) (v : DWord) : State := s.setReg r (v.setWidth 64)

/-- Numbers of the registers that rules name (10_state R21). -/
abbrev rax : RegNum := 0
abbrev rcx : RegNum := 1
abbrev rdx : RegNum := 2
abbrev rbx : RegNum := 3
abbrev rsp : RegNum := 4
abbrev rbp : RegNum := 5
abbrev rsi : RegNum := 6
abbrev rdi : RegNum := 7

/-- A vector register (10_state R40). -/
def State.vreg (s : State) (r : RegNum) : Vec := s.vregs[r.toNat]'r.isLt

/-- Write a vector register whole (10_state R40). -/
def State.setVreg (s : State) (r : RegNum) (v : Vec) : State :=
  { s with vregs := s.vregs.set r.toNat v r.isLt }

/-- The processor is in 64-bit mode (10_state R28). -/
def State.in64 (s : State) : Bool := decide (s.mode = .long64)

/-- IA32_EFER.LMA = 1: 64-bit or compatibility mode (20_memory R115). -/
def State.lma (s : State) : Bool := decide (s.mode = .long64) || decide (s.mode = .compat)

/-! ## Free values (log 11) -/

/-- One more free value has been drawn. -/
def State.drew (s : State) : State := { s with draws := s.draws + 1 }

/-- The head of a list of environment choices; `dflt` when none is left (log 12). -/
def nextChoice {α : Type} (dflt : α) (l : List α) : α := l.headD dflt

/-! ## The guest's clock and the shared key tables -/

/-- The TSC as a guest sees it: multiplied and offset where the VMCS asks for it (60 R524; log 38). -/
def guestTsc (s : State) : QWord :=
  if s.vmx = .nonRoot ∧ s.vmcs.useTscOffset then
    (if s.vmcs.useTscScaling then BitVec.ofNat 64 (s.tsc.toNat * s.vmcs.tscMultiplier.toNat / 2 ^ 48) else s.tsc) +
      s.vmcs.tscOffset
  else s.tsc

/-- Program an entry of the TME-MK table (10_state R70). -/
def State.setTmeKey (s : State) (k : Nat) (e : KeyEntry 512) : State :=
  { s with tmeKeys := Store.set KeyEntry.unset k e s.tmeKeys }

/-- Program an entry of the TSE table (10_state R70). -/
def State.setTseKey (s : State) (k : Nat) (e : KeyEntry 256) : State :=
  { s with tseKeys := Store.set KeyEntry.unset k e s.tseKeys }

/-! ## Linear addresses -/

/-- An address before the pipeline: an offset and the segment it is used with. -/
structure Pointer where
  off : QWord
  seg : Seg
  deriving DecidableEq, Repr

/-- The exception of a canonicality, limit or LASS violation: `#SS(0)` for the stack segment, else `#GP(0)`
(20_memory R95). -/
def Pointer.violation (p : Pointer) : Stop := if p.seg = .ss then .exc .ss 0 else .exc .gp 0

/-- A segment register. -/
def State.segReg (s : State) : Seg → SegReg
  | .es => s.segs.es
  | .cs => s.segs.cs
  | .ss => s.segs.ss
  | .ds => s.segs.ds
  | .fs => s.segs.fs
  | .gs => s.segs.gs

/-- CR4.LA57: 5-level paging (20_memory R96). -/
def State.la57 (s : State) : Bool := s.cr4.getLsbD 12

/-- An address whose bits above `w - 1` equal its bit `w - 1`. -/
def canonicalAt (w : Nat) (la : QWord) : Bool := (la.setWidth w).signExtend 64 == la

/-- `LA_WIDTH`-canonical (20_memory R96). -/
def State.canonical (s : State) (la : QWord) : Bool := canonicalAt (if s.la57 then 57 else 48) la

/-- `LamCheckAndMask` (20_memory R101, R102, R109): `none` is a canonicality violation. -/
def lamCheckAndMask (s : State) (p : QWord) : Option QWord :=
  let u57 := if s.enclave then s.secsLamU57 else s.cr3.getLsbD 61
  let u48 := if s.enclave then s.secsLamU48 else s.cr3.getLsbD 62
  let sup := if s.enclave then false else s.cr4.getLsbD 28
  let use57 := if p.msb then sup && s.la57 else u57
  let use48 := if p.msb then sup && !s.la57 else !u57 && u48
  if use57 then
    if s.la57 then
      if p.getLsbD 56 = p.msb then some ((p.setWidth 57).signExtend 64) else none
    else if p.extractLsb' 47 10 = (if p.msb then BitVec.allOnes 10 else 0) then
      some ((p.setWidth 57).signExtend 64)
    else none
  else if use48 then
    if p.getLsbD 47 = p.msb then some ((p.setWidth 48).signExtend 64) else none
  else if s.canonical p then some p else none

/-- The linear address of `n` bytes at a pointer (20_memory R95 steps 1 and 2). Outside 64-bit mode: the segment
base is added and the limit checked. The last byte must be canonical too (log 24). -/
def linearOf (s : State) (p : Pointer) (n : Nat) : Except Stop QWord :=
  if s.in64 then
    let base := if p.seg = .fs then s.segs.fs.base else if p.seg = .gs then s.segs.gs.base else 0
    match lamCheckAndMask s (p.off + base) with
    | none => .error p.violation
    | some la =>
      if decide (la.toNat + n ≤ 2 ^ 64) && s.canonical (la + BitVec.ofNat 64 (n - 1)) then .ok la
      else .error p.violation
  else
    let off := p.off.toNat % 2 ^ 32
    if off + (n - 1) ≤ (s.segReg p.seg).limit.toNat then
      .ok (((s.segReg p.seg).base + BitVec.ofNat 64 off).setWidth 32 |>.setWidth 64)
    else .error p.violation

/-- LASS allows a data access (20_memory R114 to R116). `implicit` marks an implicit supervisor access. -/
def lassData (s : State) (implicit : Bool) (la : QWord) : Bool :=
  if !(s.cr4.getLsbD 27 && s.lma) then true
  else if s.cpl = 3 ∧ !implicit then !la.msb
  else la.msb || !(s.cr4.getLsbD 21 && (implicit || !s.rflags.getLsbD 18))

/-- LASS allows a fetch (20_memory R116). -/
def lassFetch (s : State) (la : QWord) : Bool :=
  if !(s.cr4.getLsbD 27 && s.lma) then true
  else if s.cpl = 3 then !la.msb
  else la.msb

/-- CR0.AM = 1, RFLAGS.AC = 1 and CPL = 3: alignment checking is on (10_state R30). -/
def State.alignChecked (s : State) : Bool := s.cr0.getLsbD 18 && s.rflags.getLsbD 18 && decide (s.cpl = 3)

/-! ## Translation and access -/

/-- A user-mode access: CPL 3 and not implicit (20_memory R95). -/
def State.userAccess (s : State) (implicit : Bool) : Bool := decide (s.cpl = 3) && !implicit

/-- What the oracle answers for the page of a linear address: the identity where it lists nothing (92 D13; log 6). -/
def translatePage (s : State) (kind : AccessKind) (user : Bool) (page : Nat) : TransResult :=
  match s.platform.translation.find? (fun e =>
      e.page == page && e.kind == kind && e.user == user && e.cr3 == s.cr3) with
  | some e => e.result
  | none => .frame page none

/-- `Translate` for one byte (20_memory R95 step 5). An EPT violation exists in VMX non-root operation only. -/
def translate (s : State) (kind : AccessKind) (user : Bool) (la : QWord) : Except Stop Nat :=
  let found (page : Nat) : Except Stop Nat :=
    let pa := page * 4096 + la.toNat % 4096
    if pa < 2 ^ maxPhyAddr s then .ok pa else .error (.noPhysical pa)
  match translatePage s kind user (la.toNat / 4096) with
  | .frame page _ => found page
  | .pageFault code => .error (.pageFault la code)
  | .eptViolation q => if s.vmx = .nonRoot then .error (.vmExit 48 q 0 0) else found (la.toNat / 4096)

/-- The linear address of the byte after `la`: 32 bits wide outside 64-bit mode. -/
def State.laNext (s : State) (la : QWord) : QWord :=
  if s.in64 then la + 1 else ((la + 1).setWidth 32).setWidth 64

/-- The physical addresses of `n` bytes at a linear address: each byte's page is translated (20_memory R95 step 7). -/
def translateAll (s : State) (kind : AccessKind) (user : Bool) : QWord → Nat → Except Stop (List Nat)
  | _, 0 => .ok []
  | la, n + 1 => do
    let pa ← translate s kind user la
    let rest ← translateAll s kind user (s.laNext la) n
    return pa :: rest

/-- The address pipeline of 20_memory R95 up to translation, for `n` bytes: the address must be a multiple of `align`,
else `misaligned`. -/
def access (s : State) (p : Pointer) (n : Nat) (kind : AccessKind) (implicit : Bool) (align : Nat)
    (misaligned : Stop) : Except Stop (List Nat) := do
  let la ← linearOf s p n
  need (lassData s implicit la) p.violation
  need (la.toNat % align == 0) misaligned
  translateAll s kind (s.userAccess implicit) la n

/-- The bytes at physical addresses. -/
def State.bytesAt (s : State) (pas : List Nat) : List Byte := pas.map s.mem.read

/-- `MemRead` of `n` bytes without an alignment requirement (00_scope R8). An access of any width, aligned or not, is
one step: 20_memory R87 lets a processor split the wider and the misaligned ones and fixes no order of the parts (DESIGN
CHOICE, log 56). -/
def memRead (s : State) (p : Pointer) (n : Nat) : Except Stop (List Byte) := do
  let pas ← access s p n .read false 1 gp0
  return s.bytesAt pas

/-- `MemRead` of `n` bytes by an instruction whose exception class checks alignment (20_memory R86f). -/
def memReadChecked (s : State) (p : Pointer) (n : Nat) : Except Stop (List Byte) := do
  let pas ← access s p n .read false (if s.alignChecked then n else 1) (.exc .ac 0)
  return s.bytesAt pas

/-- The number whose little-endian bytes are given (20_memory R80). -/
def leNat : List Byte → Nat
  | [] => 0
  | b :: rest => b.toNat + 256 * leNat rest

/-- The `n` little-endian bytes of a number (20_memory R80). -/
def leBytes : Nat → Nat → List Byte
  | 0, _ => []
  | n + 1, v => BitVec.ofNat 8 v :: leBytes n (v / 256)

/-- The memory type of a physical address (20_memory R83). -/
def memType (s : State) (pa : Nat) : MemType :=
  match s.platform.memTypes.find? (fun r => decide (r.base ≤ pa) && decide (pa < r.base + r.size)) with
  | some r => r.type
  | none => .wb

/-- `memtype(pa, translation)` (20_memory R83): the type the translation of the page gives, else that of the physical
address. -/
def byteType (s : State) (kind : AccessKind) (user : Bool) (la : QWord) (pa : Nat) : MemType :=
  match translatePage s kind user (la.toNat / 4096) with
  | .frame _ (some t) => t
  | _ => memType s pa

/-- Every byte of a write from a linear address on is write-back memory; `pas` are the physical addresses. -/
def writeBack (s : State) (user : Bool) : QWord → List Nat → Bool
  | _, [] => true
  | la, pa :: rest => decide (byteType s .write user la pa = .wb) && writeBack s user (s.laNext la) rest

/-- The monitor after stores to physical addresses (49 R472). -/
def Monitor.snoop (m : Monitor) (pas : List Nat) : Monitor :=
  match m with
  | .armed base size => if pas.any (fun pa => decide (base ≤ pa) && decide (pa < base + size)) then .triggered else m
  | _ => m

/-- Store bytes at physical addresses (20_memory R95 step 7). -/
def State.storeBytes (s : State) (pas : List Nat) (bs : List Byte) : State :=
  { s with mem := s.mem.writeAll pas bs, monitor := s.monitor.snoop pas }

/-! ## Remote atomic operations (41_rao R217) -/

/-- `n` consecutive physical addresses. -/
def paRange (pa : Nat) : Nat → List Nat
  | 0 => []
  | n + 1 => pa :: paRange (pa + 1) n

/-- The function of a remote atomic operation, modulo 2^(8 * size) (41_rao R212 to R215). -/
def RaoOp.apply (op : RaoOp) (old src : QWord) : QWord :=
  match op with
  | .add => old + src
  | .bitAnd => old &&& src
  | .bitOr => old ||| src
  | .bitXor => old ^^^ src

/-- Perform one queued update: read, function and write in one step (41_rao R217). The write triggers an armed monitor
as a processor's store does: DESIGN CHOICE, since 49 R472 speaks of stores only (log 9). -/
def raoPerform (s : State) (u : RaoUpdate) : State :=
  let pas := paRange u.pa u.size
  let old := BitVec.ofNat 64 (leNat (s.bytesAt pas))
  s.storeBytes pas (leBytes u.size (u.op.apply old u.src).toNat)

/-- Perform every queued update, oldest first: what a locked or serializing instruction waits for
(41_rao R218 item 5). -/
def raoDrain (s : State) : State := { s.rao.foldl raoPerform s with rao := [] }

/-- Perform the queued updates at the positions given, each position counted in what is left (41_rao R217, R218). -/
def raoPick (s : State) : List Nat → State
  | [] => s
  | i :: rest =>
    match s.rao[i]? with
    | some u => raoPick { raoPerform s u with rao := s.rao.eraseIdx i } rest
    | none => raoPick s rest

/-! ## Locked accesses (60 R510, R511) -/

/-- `LockedAccessCheck` of an access whose bytes are all write-back memory or not: UC-lock disable (60 R510; log 34). -/
def ucLockCheck (s : State) (wb : Bool) : Except Stop Unit :=
  if (Store.get 0 0x33 s.msrs).getLsbD 28 ∧ !wb then
    if (Store.get 0 0xCF s.msrs).getLsbD 4 then .error gp0
    else if enumerated s .ucLockAc then .error (.exc .ac 4)
    else .ok ()
  else .ok ()

/-- Split-lock disable is on and `n` bytes at `la` cross a cache line (60 R511; log 33). -/
def splitLocked (s : State) (la : QWord) (n : Nat) : Bool :=
  (Store.get 0 0x33 s.msrs).getLsbD 29 && (Store.get 0 0xCF s.msrs).getLsbD 5 &&
    decide (lineSize s < la.toNat % lineSize s + n)

end Sys2Proof.Machine
end

