-- ==== Sys2Proof/Machine/Flags.lean ====
section
/-! DEFINITION. The status flags (10_state R26), the flags of a comparison (42 R233) and the conditions on them
(42 R232). -/

namespace Sys2Proof.Machine

/-- The six status flags: CF, PF, AF, ZF, SF, OF (10_state R26). -/
structure Status where
  cf : Bool
  pf : Bool
  af : Bool
  zf : Bool
  sf : Bool
  of : Bool
  deriving DecidableEq, Repr

/-- Bits 0, 2, 4, 6, 7 and 11 of RFLAGS. -/
def statusMask : QWord := 0x8D5

/-- A flag at its bit. -/
def flagBit (n : Nat) (b : Bool) : QWord := if b then BitVec.twoPow 64 n else 0

/-- The status flags at their positions (10_state R26). -/
def Status.bits (f : Status) : QWord :=
  flagBit 0 f.cf ||| flagBit 2 f.pf ||| flagBit 4 f.af ||| flagBit 6 f.zf ||| flagBit 7 f.sf ||| flagBit 11 f.of

/-- RFLAGS with the six status flags replaced, every other bit kept. -/
def withStatus (rflags : QWord) (f : Status) : QWord := (rflags &&& ~~~statusMask) ||| f.bits

/-- The low byte has an even number of 1 bits. -/
def evenParity (b : Byte) : Bool := !((List.range 8).foldl (fun a i => a ^^ b.getLsbD i) false)

/-- The flags of the `w`-bit subtraction `a - b`, as CMP sets them (42 R233). -/
def cmpStatus {w : Nat} (a b : BitVec w) : Status where
  cf := decide (a.toNat < b.toNat)
  pf := evenParity ((a - b).setWidth 8)
  af := decide (a.toNat % 16 < b.toNat % 16)
  zf := decide (a = b)
  sf := (a - b).msb
  of := (a.msb != b.msb) && ((a - b).msb != a.msb)

/-- The sixteen conditions of CMPccXADD (42 R232). -/
inductive Cond where
  | o | no | b | nb | z | nz | be | nbe | s | ns | p | np | l | nl | le | nle
  deriving DecidableEq, Repr

/-- A condition holds of the flags (42 R232). -/
def Cond.holds (f : Status) : Cond → Bool
  | .o => f.of
  | .no => !f.of
  | .b => f.cf
  | .nb => !f.cf
  | .z => f.zf
  | .nz => !f.zf
  | .be => f.cf || f.zf
  | .nbe => !f.cf && !f.zf
  | .s => f.sf
  | .ns => !f.sf
  | .p => f.pf
  | .np => !f.pf
  | .l => f.sf != f.of
  | .nl => f.sf == f.of
  | .le => f.zf || (f.sf != f.of)
  | .nle => !f.zf && (f.sf == f.of)

/-- Flags of PBNDKB and PCONFIG: ZF reports failure, the five others are cleared (43 R257, R261). -/
def keyStatus (failed : Bool) : Status := ⟨false, false, false, failed, false, false⟩

end Sys2Proof.Machine
end

