-- ==== Sys2Proof/Machine/Operands.lean ====
section
/-! DEFINITION. Operand forms: memory operands (30_encoding R137), implicit pointers, element views of vectors
(00_scope R7), and the enables of the vector instructions (60 R486). -/

namespace Sys2Proof.Machine

/-! ## Memory operands -/

/-- An optional register's value, 0 when absent. -/
def State.regOr0 (s : State) : Option RegNum → QWord
  | some r => s.reg r
  | none => 0

/-- The sum an address form stands for, before truncation (30_encoding R137). -/
def effSum (s : State) : EffAddr → QWord
  | .ripRel d => s.nextRip + d.signExtend 64
  | .sib b i scale d => s.regOr0 b + (s.regOr0 i <<< scale.toNat) + d.signExtend 64

/-- The effective address, truncated to the address size: 64 bits in 64-bit mode without 67, else 32
(20_memory R95 step 1, 30_encoding R132). -/
def effAddr (s : State) (m : MemOp) : QWord :=
  if s.in64 && !m.addr32 then effSum s m.ea else ((effSum s m.ea).setWidth 32).setWidth 64

/-- The segment an address form uses without an override: SS if the base is RSP or RBP, else DS (30_encoding R137). -/
def defaultSeg : EffAddr → Seg
  | .sib (some b) _ _ _ => if b = rsp ∨ b = rbp then .ss else .ds
  | _ => .ds

/-- The segment of a memory operand: in 64-bit mode only FS and GS overrides have an effect (30_encoding R132). -/
def memSeg (s : State) (m : MemOp) : Seg :=
  match m.seg with
  | some x => if s.in64 then (if x = .fs ∨ x = .gs then x else defaultSeg m.ea) else x
  | none => defaultSeg m.ea

/-- The pointer of a memory operand. -/
def memPointer (s : State) (m : MemOp) : Pointer := ⟨effAddr s m, memSeg s m⟩

/-- The pointer an instruction takes from a register, 32 bits wide outside 64-bit mode (43 R260). That a segment override
and a 67 byte do not act on it is the model's choice (DESIGN CHOICE, log 28). -/
def regPointer (s : State) (r : RegNum) : Pointer :=
  ⟨if s.in64 then s.reg r else (s.reg32 r).setWidth 64, .ds⟩

/-! ## Vectors -/

/-- Element `i` of `w` bits (00_scope R7). -/
def elem {n : Nat} (w : Nat) (v : BitVec n) (i : Nat) : BitVec w := v.extractLsb' (w * i) w

/-- Doubleword `i`. -/
abbrev dword {n : Nat} (v : BitVec n) (i : Nat) : DWord := elem 32 v i
/-- Quadword `i`. -/
abbrev qword {n : Nat} (v : BitVec n) (i : Nat) : QWord := elem 64 v i
/-- Word `i`. -/
abbrev word16 {n : Nat} (v : BitVec n) (i : Nat) : BitVec 16 := elem 16 v i
/-- Byte `i`. -/
abbrev byteAt {n : Nat} (v : BitVec n) (i : Nat) : Byte := elem 8 v i

/-- The number whose `n` elements of `w` bits are `f 0`, `f 1`, ... -/
def packNat {w : Nat} (f : Nat → BitVec w) : Nat → Nat
  | 0 => 0
  | n + 1 => packNat f n + (f n).toNat * 2 ^ (w * n)

/-- The vector whose first `n` elements of `w` bits are `f 0`, `f 1`, ..., and whose other bits are 0: a VEX
destination, `DEST[MAXVL-1:VL] := 0` (10_state R40). -/
def pack {w : Nat} (n : Nat) (f : Nat → BitVec w) : Vec := BitVec.ofNat 512 (packNat f n)

/-- Bytes as a vector, the first lowest (20_memory R80). -/
def vecOfBytes (bs : List Byte) : Vec := BitVec.ofNat 512 (leNat bs)

/-- A register-or-memory source of `n` bytes (46 R350); a memory source needs no alignment. Only the low `n` bytes of
a register are looked at by the rules. -/
def rmSource (s : State) (o : RM) (n : Nat) : Except Stop Vec :=
  match o with
  | .reg r => .ok (s.vreg r)
  | .mem m => do
    let bs ← memRead s (memPointer s m) n
    return vecOfBytes bs

/-- CR4.OSXSAVE = 1 and XCR0[2:1] = 11b (10_state R52). -/
def State.avxEnabled (s : State) : Bool := s.cr4.getLsbD 18 && s.xcr0.getLsbD 1 && s.xcr0.getLsbD 2

/-- CR0.TS (60 R486). -/
def State.taskSwitched (s : State) : Bool := s.cr0.getLsbD 3

/-- The checks of a VEX vector instruction before its memory access: #UD, then #NM (60 R486). That #NM comes before the
faults of the memory source is the model's choice: 60 R484 gives it no place (DESIGN CHOICE, log 43). -/
def vexCheck (s : State) (fs : List Feature) : Except Stop Unit := do
  need (fs.all (enumerated s) && s.avxEnabled && decide (s.mode ≠ .real) && decide (s.mode ≠ .v86)) ud
  need (!s.taskSwitched) (.exc .nm 0)

/-- A VEX vector instruction with a destination register and one register-or-memory source of `n` bytes, whose result
is `f` of that source. -/
def vexOp (s : State) (fs : List Feature) (d : RegNum) (o : RM) (n : Nat) (f : Vec → Vec) :
    Host.Outcome State Fault Refusal :=
  settle s do
    vexCheck s fs
    let b ← rmSource s o n
    return s.setVreg d (f b)

end Sys2Proof.Machine
end

