-- ==== Sys2Proof/Machine/Keys.lean ====
section
/-! DEFINITION. PBNDKB and PCONFIG (43_pbndkb_pconfig): bind structures, key-program structures, the two key tables. -/

namespace Sys2Proof.Machine

/-! ## Structures in memory -/

/-- The number in `n` bytes of a structure from byte `off` on. -/
def field (bs : List Byte) (off n : Nat) : Nat := leNat ((bs.drop off).take n)

/-- `n` bytes of a structure from byte `off` on are zero. -/
def zeroBytes (bs : List Byte) (off n : Nat) : Bool := ((bs.drop off).take n).all (· == 0)

/-- The reserved bytes of a bind structure are zero: 23:16, 63:36, BTDATA 127:33 (43 R256). -/
def bindReservedZero (bs : List Byte) : Bool := zeroBytes bs 16 8 && zeroBytes bs 36 28 && zeroBytes bs 161 95

/-- A bind structure from its fields (43 R256). -/
def bindBytes (mac : BitVec 128) (iv : BitVec 96) (enc : BitVec 512) (challenge : BitVec 256) (ctrl : Byte) :
    List Byte :=
  leBytes 16 mac.toNat ++ leBytes 8 0 ++ leBytes 12 iv.toNat ++ leBytes 28 0 ++ leBytes 64 enc.toNat ++
    leBytes 32 challenge.toNat ++ [ctrl] ++ leBytes 95 0

/-- The additional data of the authenticated encryption: bytes 63:16, then bytes 255:128 (43 R257, R267). -/
def bindAad (bs : List Byte) : BitVec 1408 := BitVec.ofNat 1408 (leNat ((bs.drop 16).take 48 ++ (bs.drop 128).take 128))

/-- The wrapping key of a bind structure: HMAC of its challenge under the platform key (43 R257, R259). -/
def wrappingKey (bs : List Byte) : BitVec 256 :=
  Config.hmacSha256 Config.tseWrapKey (BitVec.ofNat 256 (field bs 128 32))

/-- `AES256_GCM_Encrypt`, the 64 bytes of key data (43 R259). -/
def gcmEncrypt (key : BitVec 256) (iv : BitVec 96) (aad : BitVec 1408) (data : BitVec 512) : BitVec 512 :=
  Config.gcmCipher key iv aad data

/-- `AES256_GCM_Decrypt`, the 64 bytes of key data: it inverts encryption (43 R259). -/
def gcmDecrypt (key : BitVec 256) (iv : BitVec 96) (aad : BitVec 1408) (data : BitVec 512) : BitVec 512 :=
  (Config.gcmCipher key iv aad).symm data

/-! ## Outcomes and draws -/

/-- Completion with a failure reason: ZF = 1, RAX = reason, the other status flags cleared (43 R257, R261, R263). -/
def keyFailure (reason : QWord) (s : State) : State :=
  { s.setReg rax reason with rflags := withStatus s.rflags (keyStatus true) }

/-- Successful completion: ZF = 0, RAX = 0, the other status flags cleared (43 R257, R261). -/
def keySuccess (s : State) : State :=
  { s.setReg rax 0 with rflags := withStatus s.rflags (keyStatus false) }

/-- The random-number source is short of entropy now (93 U28). -/
def entropyShort (s : State) : Bool := nextChoice false s.env.entropyShort

/-- The entropy choice is used up. -/
def State.dropEntropy (s : State) : State := { s with env := { s.env with entropyShort := s.env.entropyShort.tail } }

/-- The lock of a key table is taken by another processor now (43 R268, 92 D18). -/
def lockTaken (s : State) : Bool := nextChoice false s.env.lockBusy

/-- The lock choice is used up. -/
def State.dropLock (s : State) : State := { s with env := { s.env with lockBusy := s.env.lockBusy.tail } }

/-! ## PBNDKB -/

/-- The bind structure PBNDKB writes for plaintext keys under an initialization vector (43 R257). `tmp` is the input
structure. -/
def bindOutput (tmp : List Byte) (iv : BitVec 96) (keys : BitVec 512) : List Byte :=
  let key := wrappingKey tmp
  let ctrl := BitVec.ofNat 8 (field tmp 160 1)
  let used := bindBytes 0 iv 0 (BitVec.ofNat 256 (field tmp 128 32)) ctrl
  let enc := gcmEncrypt key iv (bindAad used) keys
  bindBytes (Config.gcmTag key iv (bindAad used) enc) iv enc 0 ctrl

/-- The keys PBNDKB encrypts: those of the input, exclusive-or random ones if KEY_GENERATION_CTRL = 1; `none` if
entropy is short (43 R257). -/
def bindKeys (tmp : List Byte) (s : State) : Option (BitVec 512) × State :=
  let given := BitVec.ofNat 512 (field tmp 64 64)
  if field tmp 160 1 = 1 then
    if entropyShort s then (none, s.dropEntropy)
    else (some (given ^^^ Config.randomBits s.draws), s.dropEntropy.drew)
  else (some given, s)

/-- The effect of PBNDKB after its checks: keys, initialization vector, output structure (43 R257). -/
def bindEffect (tmp : List Byte) (pas : List Nat) (s : State) : State :=
  match bindKeys tmp s with
  | (none, t) => keyFailure 2 t
  | (some keys, t) =>
    if entropyShort t then keyFailure 2 t.dropEntropy
    else
      let iv := (Config.randomBits t.draws).setWidth 96
      keySuccess (t.dropEntropy.drew.storeBytes pas (bindOutput tmp iv keys))

/-- PBNDKB (43 R255 to R258). Non-zero MAC or IV fields of the input have no meaning in the spec (93 U10; log 22). -/
def execPbndkb (s : State) : Host.Outcome State Fault Refusal :=
  settle s do
    need (enumerated s .pbndkb && decide (s.cpl = 0) && s.in64) ud
    need ((s.reg rbx).toNat % 256 == 0 && (s.reg rcx).toNat % 256 == 0 && s.reg rbx != s.reg rcx) gp0
    let tmp ← memRead s (regPointer s rbx) 256
    need (decide (field tmp 160 1 ≤ 1)) gp0
    need (bindReservedZero tmp) gp0
    need (zeroBytes tmp 0 16 && zeroBytes tmp 24 12) (.refuse .pbndkbInputMacIv)
    let pas ← access s (regPointer s rcx) 256 .write false 1 gp0
    return bindEffect tmp pas s

/-! ## PCONFIG -/

/-- The number of 1 bits. -/
def onesCount {w : Nat} (v : BitVec w) : Nat := (List.range w).countP v.getLsbD

/-- An ENC_ALG value names exactly one algorithm, and that one is supported (43 R264, R266, R267). -/
def algorithmLegal (alg supported : BitVec 16) : Bool := onesCount alg == 1 && (alg &&& supported) != 0

/-- The algorithms enabled for TME-MK: IA32_TME_ACTIVATE[63:48] (43 R264). -/
def tmeAlgorithms (s : State) : BitVec 16 := (Store.get 0 0x982 s.msrs).extractLsb' 48 16

/-- The algorithms supported for TSE: IA32_TSE_CAPABILITY[15:0] (43 R266, R272). -/
def tseAlgorithms (s : State) : BitVec 16 := (Store.get 0 addrTseCapability s.msrs).extractLsb' 0 16

/-- IA32_TME_ACTIVATE is locked and enabled, bits 0 and 1 (70_reset R583; positions PRESUMED, log 21). -/
def tmeActivated (s : State) : Bool := (Store.get (0 : QWord) 0x982 s.msrs) &&& 3 == 3

/-- The highest TME-MK KeyID: 2^MK_TME_KEYID_BITS - 1 (10_state R56, R70); no KeyID but 0 before TME is activated, so
that leaf 0 then reports a failure code (70_reset R583; log 21). -/
def tmeMaxKey (s : State) : Nat :=
  if tmeActivated s then 2 ^ ((Store.get 0 0x982 s.msrs).extractLsb' 32 4).toNat - 1 else 0

/-- `TSE_MAX_KEYS`, from IA32_TSE_CAPABILITY (00_scope R5; position: log 21). -/
def tseMaxKeys (s : State) : Nat :=
  (Store.get (0 : QWord) addrTseCapability s.msrs).toNat / 2 ^ s.platform.tseKeysLow % 2 ^ s.platform.tseKeysWidth

/-- A key-program structure (43 R265). -/
structure KeyProgram where
  keyId : Nat
  command : Nat
  alg : BitVec 16
  key1 : BitVec 512
  key2 : BitVec 512
  deriving DecidableEq, Repr

/-- Read and check a key-program structure at RBX: aligned, reserved fields zero (43 R264, R265). -/
def readKeyProgram (s : State) : Except Stop KeyProgram := do
  need ((regPointer s rbx).off.toNat % 256 == 0) gp0
  let bs ← memRead s (regPointer s rbx) 192
  need (zeroBytes bs 5 59) gp0
  return ⟨field bs 0 2, field bs 2 1, BitVec.ofNat 16 (field bs 3 2), BitVec.ofNat 512 (field bs 64 64),
    BitVec.ofNat 512 (field bs 128 64)⟩

/-- Command 1 of leaf 0: random keys, exclusive-or the supplied fields (43 R264). -/
def tmeRandomKey (p : KeyProgram) (s : State) : State :=
  if entropyShort s then keyFailure 2 s.dropEntropy
  else
    let t := s.dropEntropy.drew
    if entropyShort t then keyFailure 2 t.dropEntropy
    else keySuccess (t.dropEntropy.drew.setTmeKey p.keyId
      ⟨.encrypt, p.alg, Config.randomBits s.draws ^^^ p.key1, Config.randomBits t.draws ^^^ p.key2⟩)

/-- Leaf 0 once the lock is held (43 R264). All 64 bytes of a key field are kept, whatever the algorithm: how many it uses
is not in the spec (DESIGN CHOICE, log 45). -/
def tmeProgram (p : KeyProgram) (s : State) : State :=
  match p.command with
  | 0 => keySuccess (s.setTmeKey p.keyId ⟨.encrypt, p.alg, p.key1, p.key2⟩)
  | 1 => tmeRandomKey p s
  | 2 => keySuccess (s.setTmeKey p.keyId KeyEntry.unset)
  | _ => keySuccess (s.setTmeKey p.keyId .noEncrypt)

/-- Leaf 0, MKTME_KEY_PROGRAM (43 R264). -/
def pconfigTme (s : State) : Except Stop State := do
  let p ← readKeyProgram s
  if 3 < p.command then return keyFailure 1 s
  else if p.keyId = 0 ∨ tmeMaxKey s < p.keyId then return keyFailure 3 s
  else
    need (algorithmLegal p.alg (tmeAlgorithms s)) gp0
    return if lockTaken s then keyFailure 5 s.dropLock else tmeProgram p s.dropLock

/-- A TSE key is 256 bits (10_state R70): the low 32 of the 64 bytes of a key field; that it is these, and that the others
are not looked at, is the model's choice (DESIGN CHOICE, log 45). -/
def tseKey (k : BitVec 512) : BitVec 256 := k.setWidth 256

/-- Leaf 1, TSE_KEY_PROGRAM (43 R263, R266). That COMMAND and then KEYID are looked at before ENC_ALG is the order of leaf 0:
R266 has no step for them (DESIGN CHOICE, log 21). -/
def pconfigTse (s : State) : Except Stop State := do
  let p ← readKeyProgram s
  if 1 < p.command then return keyFailure 1 s
  else if p.keyId = 0 ∨ tseMaxKeys s ≤ p.keyId then return keyFailure 3 s
  else
    need (algorithmLegal p.alg (tseAlgorithms s)) gp0
    return if lockTaken s then keyFailure 5 s.dropLock
      else keySuccess (s.dropLock.setTseKey p.keyId
        (if p.command = 0 then ⟨.encrypt, p.alg, tseKey p.key1, tseKey p.key2⟩ else .noEncrypt))

/-- RBX as leaf 2 reads it: 32 bits outside 64-bit mode (43 R260). -/
def pconfigControl (s : State) : QWord := (regPointer s rbx).off

/-- The keys of a wrapped structure, if its tag is the computed one (43 R267). -/
def unwrap (bs : List Byte) : Option (BitVec 512) :=
  let key := wrappingKey bs
  let iv := BitVec.ofNat 96 (field bs 24 12)
  let enc := BitVec.ofNat 512 (field bs 64 64)
  if Config.gcmTag key iv (bindAad bs) enc = BitVec.ofNat 128 (field bs 0 16) then
    some (gcmDecrypt key iv (bindAad bs) enc)
  else none

/-- Leaf 2, TSE_KEY_PROGRAM_WRAPPED (43 R263, R267). Bits 23:16 and 63:40 of the control value are ignored: R267 does not
say that they must be 0 (DESIGN CHOICE, log 45). -/
def pconfigWrapped (s : State) : Except Stop State := do
  let alg := (pconfigControl s).extractLsb' 24 16
  let keyId := (pconfigControl s).toNat % 2 ^ 16
  need (algorithmLegal alg (tseAlgorithms s)) gp0
  need ((regPointer s rcx).off.toNat % 256 == 0) gp0
  let bs ← memRead s (regPointer s rcx) 256
  need (bindReservedZero bs) gp0
  if keyId = 0 ∨ tseMaxKeys s ≤ keyId then return keyFailure 3 s
  else if lockTaken s then return keyFailure 5 s.dropLock
  else
    return match unwrap bs with
      | none => keyFailure 7 s.dropLock
      | some keys => keySuccess (s.dropLock.setTseKey keyId
          ⟨.encrypt, alg, keys.extractLsb' 0 256, keys.extractLsb' 256 256⟩)

/-- PCONFIG in VMX non-root operation exits for this leaf (43 R261). That bit 63 of the bitmap stands for every leaf of 63
or more is PRESUMED (log 36). -/
def pconfigExits (s : State) (leaf : Nat) : Bool :=
  decide (s.vmx = .nonRoot) && s.vmcs.enablePconfig && s.vmcs.pconfigExiting.getLsbD (min leaf 63)

/-- PCONFIG (43 R260 to R270): leaf 0 for the TME-MK target 1, leaves 1 and 2 for the TSE target 2. -/
def execPconfig (s : State) : Host.Outcome State Fault Refusal :=
  let leaf := (s.reg32 rax).toNat
  settle s do
    need (enumerated s .pconfig && decide (s.cpl = 0)) ud
    need (!pconfigExits s leaf) (.vmExit 65 0 (exitLength s) 0)
    need (decide (leaf ≤ 2) && pconfigTarget s (if leaf = 0 then 1 else 2)) gp0
    if leaf = 0 then pconfigTme s else if leaf = 1 then pconfigTse s else pconfigWrapped s

/-! ## What another processor's PCONFIG may program (10_state R70, 60 R502; log 8) -/

/-- The entry is one that PCONFIG writes: an encryption with one supported algorithm, or no encryption (43 R264, R266,
R267). -/
def keyEntryLegal {w : Nat} (supported : BitVec 16) (e : KeyEntry w) : Bool :=
  match e.mode with
  | .encrypt => algorithmLegal e.alg supported
  | .noEncrypt => e == .noEncrypt
  | .unset => false

/-- PCONFIG may write this entry of the TME-MK table: the KeyID is one that it accepts, and "the TME key" is allowed
(43 R264). -/
def tmeProgramLegal (s : State) (k : Nat) (e : KeyEntry 512) : Bool :=
  decide (k ≠ 0) && decide (k ≤ tmeMaxKey s) && (keyEntryLegal (tmeAlgorithms s) e || e == .unset)

/-- PCONFIG may write this entry of the TSE table: the KeyID is one that it accepts (43 R266, R267). -/
def tseProgramLegal (s : State) (k : Nat) (e : KeyEntry 256) : Bool :=
  decide (k ≠ 0) && decide (k < tseMaxKeys s) && keyEntryLegal (tseAlgorithms s) e

end Sys2Proof.Machine
end

