-- ==== Sys2Proof/Machine/Breakpoint.lean ====
section
/-! DEFINITION. The data breakpoints of DR0 to DR3 and DR7: what each watches, and which accesses it matches (10_state R35,
60 R565; the positions in DR7: log 54). -/

namespace Sys2Proof.Machine

/-! ## Breakpoints -/

/-- A breakpoint address (10_state R35). -/
def breakAddress (s : State) (x : Fin 4) : QWord :=
  match x with
  | 0 => s.dr0
  | 1 => s.dr1
  | 2 => s.dr2
  | 3 => s.dr3

/-- DR7 enables breakpoint `x`: its local or its global bit (PRESUMED positions, log 54). -/
def breakEnabled (s : State) (x : Fin 4) : Bool := s.dr7.getLsbD (2 * x) || s.dr7.getLsbD (2 * x + 1)

/-- The kind of breakpoint `x`: 0 code, 1 data writes, 2 I/O, 3 data (PRESUMED positions, log 54). -/
def breakKind (s : State) (x : Fin 4) : Nat := s.dr7.toNat / 2 ^ (16 + 4 * x.val) % 4

/-- The bytes that data breakpoint `x` watches: 1, 2, 8 or 4 (PRESUMED positions, log 54). -/
def breakSize (s : State) (x : Fin 4) : Nat :=
  match s.dr7.toNat / 2 ^ (18 + 4 * x.val) % 4 with
  | 0 => 1
  | 1 => 2
  | 2 => 8
  | _ => 4

/-- The first byte that data breakpoint `x` watches: the address, aligned to the size (log 54). -/
def breakStart (s : State) (x : Fin 4) : Nat := (breakAddress s x).toNat / breakSize s x * breakSize s x

/-! ## Accesses -/

/-- A data access of an instruction: linear address, bytes, whether it writes. -/
structure DataAccess where
  la : QWord
  size : Nat
  write : Bool
  deriving DecidableEq, Repr

/-- A data access matches breakpoint `x`: it is enabled for such an access, and a byte accessed is a byte watched
(10_state R35, 60 R565). I/O breakpoints match nothing. -/
def breakMatches (s : State) (x : Fin 4) (a : DataAccess) : Bool :=
  breakEnabled s x && (breakKind s x == 3 || (breakKind s x == 1 && a.write)) &&
    decide (a.la.toNat < breakStart s x + breakSize s x) && decide (breakStart s x < a.la.toNat + a.size)

/-- The access of `n` bytes through a pointer, at its linear address. -/
def pointerAccess (s : State) (p : Pointer) (n : Nat) (write : Bool) : List DataAccess :=
  match linearOf s p n with
  | .ok la => [⟨la, n, write⟩]
  | .error _ => []

/-- Some data breakpoint matches one of the accesses. -/
def anyMatch (s : State) (accesses : List DataAccess) : Bool :=
  accesses.any fun a => (List.finRange 4).any fun x => breakMatches s x a

end Sys2Proof.Machine
end

