-- ==== Sys2Proof/Machine/Cpuid.lean ====
section
/-! DEFINITION. CPUID (40_cpuid R170, R171) and the decoding of its signature (R176). -/

namespace Sys2Proof.Machine

/-- The four results of CPUID in RAX, RBX, RCX, RDX, bits 63:32 cleared (40_cpuid R170, R171). -/
def State.setCpuid (s : State) (r : CpuidRow) : State :=
  (((s.setReg32 rax r.eax).setReg32 rbx r.ebx).setReg32 rcx r.ecx).setReg32 rdx r.edx

/-- CPUID: a serializing instruction (20_memory R123), so pending remote atomic updates are performed first; a VM exit
in VMX non-root operation (40_cpuid R170, 60 R540). -/
def execCpuid (s : State) : Host.Outcome State Fault Refusal :=
  settle s do
    need (decide (s.vmx ≠ .nonRoot)) (.vmExit 10 0 (exitLength s) 0)
    return (raoDrain s).setCpuid (cpuidQuery s (s.reg32 rax) (s.reg32 rcx))

/-- Displayed family of a leaf-01H signature (40_cpuid R176). -/
def displayedFamily (eax : DWord) : Nat :=
  let family := eax.toNat / 2 ^ 8 % 16
  if family = 15 then eax.toNat / 2 ^ 20 % 256 + family else family

/-- Displayed model of a leaf-01H signature (40_cpuid R176): the extended model counts for families 06H and 0FH. -/
def displayedModel (eax : DWord) : Nat :=
  let family := eax.toNat / 2 ^ 8 % 16
  let model := eax.toNat / 2 ^ 4 % 16
  if family = 6 ∨ family = 15 then eax.toNat / 2 ^ 16 % 16 * 16 + model else model

end Sys2Proof.Machine
end

