-- ==== Sys2Proof/Machine/Msr.lean ====
section
/-! DEFINITION. The MSR file as instructions see it: addresses and aliases, the fault predicates, reading and writing
(44 R290; 10_state R55 to R69; log 18). -/

namespace Sys2Proof.Machine

/-! ## Addresses -/

/-- General-purpose counter `n` is enumerated in leaf 0AH and in leaf 23H (60 R555). That 0AH:EAX[15:8] counts the
counters and 23H.1:EAX is their bitmap is PRESUMED: 40_cpuid R182 and R187 give no layout (log 53). -/
def legacyGp (s : State) (n : Nat) : Bool :=
  decide (n < (cpuidQuery s 0xA 0).eax.toNat / 2 ^ 8 % 256) && (cpuidQuery s 0x23 1).eax.getLsbD n

/-- Fixed-function counter `m` is enumerated in leaf 0AH and in leaf 23H (60 R555). That 0AH:EDX[4:0] counts the
counters and 23H.1:EBX is their bitmap is PRESUMED: 40_cpuid R182 and R187 give no layout (log 53). -/
def legacyFixed (s : State) (m : Nat) : Bool :=
  decide (m < (cpuidQuery s 0xA 0).edx.toNat % 32) && (cpuidQuery s 0x23 1).ebx.getLsbD m

/-- The address under which an MSR is stored: a legacy address of a counter is a second name (10_state R61). That
IA32_PMCn is at C1H + n, and that a write through it is a full 64-bit write, is PRESUMED (log 17). -/
def canonMsr (s : State) (a : Nat) : Nat :=
  if 0x4C1 ≤ a ∧ a < 0x4E1 ∧ legacyGp s (a - 0x4C1) then 0x1900 + 4 * (a - 0x4C1)
  else if 0xC1 ≤ a ∧ a < 0xE1 ∧ legacyGp s (a - 0xC1) then 0x1900 + 4 * (a - 0xC1)
  else if 0x186 ≤ a ∧ a < 0x1A6 ∧ legacyGp s (a - 0x186) then 0x1901 + 4 * (a - 0x186)
  else if 0x309 ≤ a ∧ a < 0x329 ∧ legacyFixed s (a - 0x309) then 0x1980 + 4 * (a - 0x309)
  else a

/-- The MSR at an address, if `MSR_SET` has one. -/
def msrFind (s : State) (a : Nat) : Option MsrDesc := s.platform.msrSet.find? fun d => d.addr == canonMsr s a

/-! ## Fault predicates (44 R290) -/

/-- `rdmsr_faults(a)`: not implemented or not readable. -/
def rdmsrFaults (s : State) (a : Nat) : Bool :=
  match msrFind s a with
  | some d => !d.readable
  | none => true

/-- Bits of MSR_MEMORY_CTRL that a write may not set: UC-lock disable and split-lock disable where they are not
enumerated (10_state R58, 60 R510, R511). -/
def memoryCtrlReserved (s : State) : QWord :=
  let caps := Store.get 0 0xCF s.msrs
  (if caps.getLsbD 4 || enumerated s .ucLockAc then 0 else 0x10000000) |||
    (if caps.getLsbD 5 then 0 else 0x20000000)

/-- `wrmsr_faults(a, v)`: not implemented, read-only, a reserved bit set, a non-canonical address, or a TSC below the
present one (70_reset R600: the counter never decreases; DESIGN CHOICE, log 10). -/
def wrmsrFaults (s : State) (a : Nat) (v : QWord) : Bool :=
  match msrFind s a with
  | some d =>
    !d.writable || decide (v &&& d.reserved ≠ 0) || (d.canonical && !s.canonical v) ||
      (decide (d.addr = 0x33) && decide (v &&& memoryCtrlReserved s ≠ 0)) ||
      (decide (d.addr = 0x10) && decide (v.toNat < s.tsc.toNat))
  | none => true

/-! ## Values -/

/-- Accesses to IA32_TSC_DEADLINE reach the guest deadline (60 R530). -/
def guestDeadlineActive (s : State) : Bool := decide (s.vmx = .nonRoot) && s.guestTimer.control

/-- IA32_EFER as far as the mode shows it: LME and LMA (20_memory R115; log 18). -/
def eferValue (s : State) : QWord := if s.lma then 0x500 else 0

/-- The value stored under a canonical address: registers with a field of their own, else the MSR store. -/
def msrStored (s : State) (a : Nat) : QWord :=
  if a = 0x10 then guestTsc s
  else if a = 0x1B00 then s.userTimer.deadline ||| s.userTimer.vector.setWidth 64
  else if a = 0x1980 then s.fixedCtr0
  else if a = 0xC0000080 then eferValue s
  else if a = 0x6E0 ∧ guestDeadlineActive s then s.guestTimer.deadline
  else Store.get 0 a s.msrs

/-- The MSR counts by itself and the counters run: its value is free (60 R550, 93 U21; log 19). IA32_FIXED_CTR0 counts
retired instructions and is no free value (60 R551). -/
def countsFreely (s : State) (a : Nat) : Bool :=
  s.pmuRunning && decide (canonMsr s a ≠ 0x1980) && (match msrFind s a with | some d => d.counter | none => false)

/-- `msr_read(a)`: the value, and the state after a free value may have been drawn. -/
def msrRead (s : State) (a : Nat) : QWord × State :=
  if countsFreely s a then (Config.counterValue s.draws, s.drew) else (msrStored s (canonMsr s a), s)

/-- IA32_UINTR_TIMER: bits 63:6 are the deadline, bits 5:0 the vector (10_state R67, 60 R520). -/
def State.setUserTimer (s : State) (v : QWord) : State :=
  { s with userTimer := { s.userTimer with deadline := v &&& ~~~0x3F, vector := v.setWidth 6 } }

/-- The value of an MSR is replaced. A write of the TSC by a guest sets the TSC itself, although a read gives the guest's
TSC: the spec is silent on it (DESIGN CHOICE, log 10). -/
def msrPut (s : State) (a : Nat) (v : QWord) : State :=
  let c := canonMsr s a
  if c = 0x10 then { s with tsc := v }
  else if c = 0x1B00 then s.setUserTimer v
  else if c = 0x1980 then { s with fixedCtr0 := v }
  else if c = 0x6E0 ∧ guestDeadlineActive s then
    { s with guestTimer := { s.guestTimer with deadline := v, shadow := v } }
  else { s with msrs := Store.set 0 c v s.msrs }

/-- A write to the MSR is serializing (00_scope R5, 44 R298). -/
def msrSerializing (s : State) (a : Nat) : Bool :=
  match msrFind s a with
  | some d => d.serializing
  | none => false

/-- `msr_write(a, v)`: a serializing write waits for the queued remote atomic updates first (41_rao R218; 20_memory
R123). -/
def msrWrite (s : State) (a : Nat) (v : QWord) : State :=
  msrPut (if msrSerializing s a then raoDrain s else s) a v

/-! ## VMX non-root operation -/

/-- RDMSR (`write` false) or WRMSR of the address causes a VM exit (44 R296). -/
def msrExits (s : State) (write : Bool) (a : Nat) : Bool :=
  decide (s.vmx = .nonRoot) &&
    (!s.vmcs.useMsrBitmaps ||
      (if a ≤ 0x1FFF then (if write then s.vmcs.writeLow else s.vmcs.readLow).contains a
       else if 0xC0000000 ≤ a ∧ a ≤ 0xC0001FFF then
         (if write then s.vmcs.writeHigh else s.vmcs.readHigh).contains (a % 0x2000)
       else true))

/-- The VM exit of an MSR access: the qualification is the address if "use MSR bitmaps" is 1, else 0 (44 R296).
That it records the instruction's length, and information 0, is the model's choice: the source gives neither (DESIGN CHOICE,
log 36). -/
def msrExit (s : State) (reason a : Nat) : Stop :=
  .vmExit reason (if s.vmcs.useMsrBitmaps then BitVec.ofNat 64 a else 0) (exitLength s) 0

end Sys2Proof.Machine
end

