-- ==== Sys2Proof/Machine/MsrAccess.lean ====
section
/-! DEFINITION. WRMSRNS, RDMSRLIST, WRMSRLIST, URDMSR, UWRMSR (44_msr_access). -/

namespace Sys2Proof.Machine

/-! ## WRMSRNS -/

/-- WRMSRNS (44 R300, R301): `MSR[ECX] := EDX:EAX`; not serializing (R302). That the VM exit comes after the CPL check and
before the #GP(0) of the MSR itself is the model's choice, since R300 and R301 give it no place, and so are its instruction
length and information (DESIGN CHOICE, log 36). -/
def execWrmsrns (s : State) : Host.Outcome State Fault Refusal :=
  let a := (s.reg32 rcx).toNat
  let v := s.reg32 rdx ++ s.reg32 rax
  settle s do
    need (enumerated s .wrmsrns) ud
    need (decide (s.cpl = 0) || decide (s.mode = .real)) gp0
    need (!msrExits s true a) (.vmExit 32 0 (exitLength s) 0)
    need (!wrmsrFaults s a v) gp0
    return msrWrite s a v

/-! ## RDMSRLIST and WRMSRLIST -/

/-- The index of the least significant set bit (44 R291). -/
def lowestBit (v : QWord) : Nat := ((List.range 64).find? fun i => v.getLsbD i).getD 0

/-- Entry `i` of a table of quadwords whose address a register holds. -/
def tableEntry (s : State) (base : RegNum) (i : Nat) : Pointer := ⟨s.reg base + BitVec.ofNat 64 (8 * i), .ds⟩

/-- Read entry `i` of a table. -/
def readEntry (s : State) (base : RegNum) (i : Nat) : Except Stop QWord := do
  let bs ← memRead s (tableEntry s base i) 8
  return BitVec.ofNat 64 (leNat bs)

/-- Clear the bit of a completed iteration. -/
def State.completeEntry (s : State) (i : Nat) : State := s.setReg rcx (s.reg rcx &&& ~~~BitVec.twoPow 64 i)

/-- The MSR address of an entry: bits 63:32 are reserved (44 R291). -/
def entryAddress (s : State) (i : Nat) : Except Stop Nat := do
  let entry ← readEntry s rsi i
  need (entry.toNat / 2 ^ 32 == 0) gp0
  return entry.toNat

/-- A value RDMSRLIST stores, and the earliest time at which the MSRs of later entries are read. -/
structure Sample where
  value : QWord
  floor : QWord
  after : State
  deriving DecidableEq, Repr

/-- The read of one MSR by RDMSRLIST. The TSC is read at any time from `floor` on; an IA32_BARRIER entry stores a free
value, and later reads come after it (44 R292, R314; logs 10, 51). -/
def sampleMsr (s : State) (floor : QWord) (a : Nat) : Sample :=
  if a = 0x2F then ⟨Config.barrierValue s.draws, s.tsc, s.drew⟩
  else if canonMsr s a = 0x10 then
    let t := BitVec.ofNat 64 (min (floor.toNat + Config.tscAhead s.draws) (2 ^ 64 - 1))
    ⟨guestTsc { s with tsc := t }, floor, { s.drew with tsc := if s.tsc.toNat < t.toNat then t else s.tsc }⟩
  else ⟨(msrRead s a).1, floor, (msrRead s a).2⟩

/-- The states in which an iteration loads its entries of the two tables (44 R293, 93 U22). -/
structure LoadStates where
  address : State
  data : State
  deriving DecidableEq, Repr

/-- One iteration of RDMSRLIST, for entry `i` (44 R291): the new floor and state. -/
def rdmsrEntry (i : Nat) (loads : LoadStates) (floor : QWord) (s : State) : Except Stop (QWord × State) := do
  let a ← entryAddress loads.address i
  need (!msrExits s false a) (msrExit s 78 a)
  need (a == 0x2F || !rdmsrFaults s a) gp0
  let pas ← access s (tableEntry s rdi i) 8 .write false 1 gp0
  let r := sampleMsr s floor a
  return (r.floor, (r.after.storeBytes pas (leBytes 8 r.value.toNat)).completeEntry i)

/-- One iteration of WRMSRLIST, for entry `i` (44 R297). -/
def wrmsrEntry (i : Nat) (loads : LoadStates) (floor : QWord) (s : State) : Except Stop (QWord × State) := do
  let a ← entryAddress loads.address i
  let data ← readEntry loads.data rdi i
  need (!msrExits s true a) (msrExit s 79 a)
  need (!wrmsrFaults s a data) gp0
  return (floor, (msrWrite s a data).completeEntry i)

/-- The page fault or EPT violation that the access of entry `j` to the address table, or to the data table, would raise
(44 R293). -/
def tableFault (s : State) (kind : AccessKind) (j : Nat) (dataTable : Bool) : Option Stop :=
  match access s (tableEntry s (if dataTable then rdi else rsi) j) 8 (if dataTable then kind else .read) false 1 gp0 with
  | .error (.pageFault la code) => some (.pageFault la code)
  | .error (.vmExit reason q len info) => some (.vmExit reason q len info)
  | _ => none

/-- The environment's choice for this iteration. -/
def listLoad (s : State) : ListLoad := nextChoice .inTurn s.env.loadAhead

/-- The fault the environment makes the instruction take for a later valid entry (44 R293; log 13). -/
def loadAheadFault (s : State) (kind : AccessKind) (i : Nat) : Option Stop :=
  match listLoad s with
  | .faultOf j dataTable =>
    if i < j.toNat ∧ (s.reg rcx).getLsbD j.toNat then tableFault s kind j.toNat dataTable else none
  | _ => none

/-- The state so many iterations back in `earlier`, whose first entry is one iteration back; never before the first
iteration. -/
def stateBack (s : State) (earlier : List State) (back : Nat) : State :=
  (s :: earlier).getD back (earlier.getLastD s)

/-- The states in which this iteration loads its table entries (44 R293, 93 U22; log 13). -/
def loadStates (s : State) (earlier : List State) : LoadStates :=
  match listLoad s with
  | .early address data => ⟨stateBack s earlier address, stateBack s earlier data⟩
  | _ => ⟨s, s⟩

/-- The load-ahead choice of an iteration is used up. -/
def State.dropLoadAhead (s : State) : State := { s with env := { s.env with loadAhead := s.env.loadAhead.tail } }

/-- The environment has an event for the boundary after this iteration (44 R294). -/
def interruptedHere (s : State) : Bool := decide (nextChoice [] s.env.events ≠ [])

/-- The accesses of the iteration for entry `i` to its entries of the two tables (44 R291, R297); RDMSRLIST writes to the
data table. -/
def entryAccesses (s : State) (write : Bool) (i : Nat) : List DataAccess :=
  pointerAccess s (tableEntry s rsi i) 8 false ++ pointerAccess s (tableEntry s rdi i) 8 write

/-- A data breakpoint matches an access of the iteration for entry `i`, so that a trap is due after it (44 R294, 60
R565). -/
def entryTraps (s : State) (write : Bool) (i : Nat) : Bool := anyMatch s (entryAccesses s write i)

/-- The step stops after an iteration: RIP stays at the instruction, which continues at the next step, or ends there if
no entry is left (44 R294). -/
def State.pauseList (s : State) : State := { s with midList := decide (s.reg rcx ≠ 0) }

/-- A boundary after an iteration at which nothing happens. -/
def State.dropQuiet (s : State) : State := { s with env := { s.env with events := s.env.events.tail } }

/-- The loop of RDMSRLIST and WRMSRLIST (44 R291, R294, R297), at most `n` iterations of `body`; `earlier` are the
states at the start of the iterations done, the last one first. A stop, or an interrupt or a trap after any iteration,
leaves RIP at the instruction and RCX with the bits of completed iterations clear. -/
def msrListLoop (kind : AccessKind) (body : Nat → LoadStates → QWord → State → Except Stop (QWord × State)) :
    Nat → List State → QWord → State → Host.Outcome State Fault Refusal
  | 0, _, _, s => .next s.retire
  | n + 1, earlier, floor, s =>
    if s.reg rcx = 0 then .next s.retire
    else
      let i := lowestBit (s.reg rcx)
      let t := s.dropLoadAhead
      match loadAheadFault s kind i with
      | some x => raise x t
      | none =>
        match body i (loadStates s earlier) floor t with
        | .error x => raise x t
        | .ok (floor', u) =>
          if interruptedHere u || entryTraps s (decide (kind = .write)) i then .next u.pauseList
          else msrListLoop kind body n (s :: earlier) floor' u.dropQuiet

/-- The checks before the loop (44 R291, R295). -/
def msrListCheck (s : State) : Except Stop Unit := do
  need (s.in64 && enumerated s .msrList && (decide (s.vmx ≠ .nonRoot) || s.vmcs.enableMsrList)) ud
  need (decide (s.cpl = 0)) gp0
  need ((s.reg rsi).toNat % 8 == 0 && (s.reg rdi).toNat % 8 == 0) gp0

/-- RDMSRLIST (44 R291 to R296). That no MSR is read at a time before the instruction starts, or before it goes on after an
interrupt or a trap, is the model's choice: R292 leaves it open where no barrier entry stands (DESIGN CHOICE, log 10). -/
def execRdmsrlist (s : State) : Host.Outcome State Fault Refusal :=
  match msrListCheck s with
  | .error x => raise x s
  | .ok _ => msrListLoop .write rdmsrEntry 64 [] s.tsc s

/-- WRMSRLIST (44 R297 to R299). -/
def execWrmsrlist (s : State) : Host.Outcome State Fault Refusal :=
  match msrListCheck s with
  | .error x => raise x s
  | .ok _ => msrListLoop .read wrmsrEntry 64 [] s.tsc s

/-! ## URDMSR and UWRMSR -/

/-- `MemReadSup` of one byte at a linear address (44 R308; 20_memory R116). -/
def readSupervisorByte (s : State) (la : QWord) : Except Stop Byte := do
  need (s.canonical la && lassData s true la) gp0
  let pa ← translate s .read false la
  return s.mem.read pa

/-- The linear address of the byte of the user-MSR bitmap with the bit for MSR address `a` (44 R308). -/
def userBitmapByte (s : State) (write : Bool) (a : Nat) : QWord :=
  (Store.get (0 : QWord) 0x1C s.msrs &&& ~~~0xFFF) + BitVec.ofNat 64 ((if write then 2048 else 0) + a / 8)

/-- URDMSR or UWRMSR of the address causes a VM exit (44 R310). -/
def userMsrExits (s : State) (write : Bool) (a : Nat) : Bool :=
  decide (s.vmx = .nonRoot) &&
    (!s.vmcs.useMsrBitmaps || decide (0x1FFF < a) ||
      (if write then s.vmcs.writeLow else s.vmcs.readLow).contains a)

/-- The VM-exit instruction information: bits 6:3 name the data operand, the others are free (44 R311, 93 U14). -/
def userMsrInfo (s : State) (data : RegNum) : DWord :=
  (Config.exitInfoBits s.draws &&& ~~~(0x78 : DWord)) ||| (data.setWidth 32 <<< (3 : Nat))

/-- `UserMsrCheck(a, kind)` up to the VM exit, in order (44 R309). `vex` marks the immediate forms, whose encoding is
VEX, so that they need the XSAVE enables (00_scope R11; log 43). -/
def userMsrCheck (s : State) (vex write : Bool) (a : Nat) (data : RegNum) : Except Stop Unit := do
  need (s.in64 && enumerated s .userMsr && (!vex || s.avxEnabled)) ud
  need ((Store.get 0 0x1C s.msrs).getLsbD 0) (if s.platform.userMsrDisabledIsGp then gp0 else ud)
  need (decide (a ≤ 0x3FFF)) gp0
  let b ← readSupervisorByte s (userBitmapByte s write a)
  need (b.getLsbD (a % 8)) gp0
  need (!write || s.platform.userMsrWritable.contains a) gp0
  need (!userMsrExits s write a)
    (if s.enclave then gp0
     else .vmExit (if write then 81 else 80) (BitVec.ofNat 64 a) (exitLength s) (userMsrInfo s data))

/-- URDMSR of MSR address `a` into `dst` (44 R303). -/
def urdmsr (vex : Bool) (a : Nat) (dst : RegNum) (s : State) : Host.Outcome State Fault Refusal :=
  settle s do
    userMsrCheck s vex false a dst
    need (!rdmsrFaults s a) gp0
    return (msrRead s a).2.setReg dst (msrRead s a).1

/-- UWRMSR of `src` to MSR address `a` (44 R305). -/
def uwrmsr (vex : Bool) (a : Nat) (src : RegNum) (s : State) : Host.Outcome State Fault Refusal :=
  settle s do
    userMsrCheck s vex true a src
    need (!wrmsrFaults s a (s.reg src)) gp0
    return msrWrite s a (s.reg src)

/-- The MSR address in a register: whether bits 63:32 are looked at is a parameter (44 R304, 93 U11). -/
def userMsrAddress (s : State) (r : RegNum) : Nat :=
  if s.platform.userMsrUpperIgnored then (s.reg32 r).toNat else (s.reg r).toNat

/-- URDMSR, register form (44 R304). -/
def execUrdmsrReg (dst addr : RegNum) (s : State) : Host.Outcome State Fault Refusal :=
  urdmsr false (userMsrAddress s addr) dst s

/-- URDMSR, immediate form (44 R303). -/
def execUrdmsrImm (dst : RegNum) (imm : DWord) (s : State) : Host.Outcome State Fault Refusal :=
  urdmsr true imm.toNat dst s

/-- UWRMSR, register form (44 R306). -/
def execUwrmsrReg (addr src : RegNum) (s : State) : Host.Outcome State Fault Refusal :=
  uwrmsr false (userMsrAddress s addr) src s

/-- UWRMSR, immediate form (44 R305). -/
def execUwrmsrImm (imm : DWord) (src : RegNum) (s : State) : Host.Outcome State Fault Refusal :=
  uwrmsr true imm.toNat src s

end Sys2Proof.Machine
end

