-- ==== Sys2Proof/Machine/Watch.lean ====
section
/-! DEFINITION. What an instruction accesses in memory, and which data breakpoints that matches (10_state R35, 60 R565;
log 54). -/

namespace Sys2Proof.Machine

/-! ## Accesses -/

/-- The access of a memory operand. -/
def memAccess (s : State) (m : MemOp) (n : Nat) (write : Bool) : List DataAccess :=
  pointerAccess s (memPointer s m) n write

/-- The access of a register-or-memory source. -/
def rmAccess (s : State) (o : RM) (n : Nat) : List DataAccess :=
  match o with
  | .reg _ => []
  | .mem m => memAccess s m n false

/-- The frame that UIRET reads (49 R461). -/
def uiretAccesses (s : State) : List DataAccess :=
  (List.range 3).flatMap fun i => pointerAccess s ⟨s.reg rsp + BitVec.ofNat 64 (8 * i), .ss⟩ 8 false

/-- The structure that PCONFIG reads (43 R264 to R267). -/
def pconfigAccesses (s : State) : List DataAccess :=
  if (s.reg32 rax).toNat = 2 then pointerAccess s (regPointer s rcx) 256 false
  else pointerAccess s (regPointer s rbx) 192 false

/-- The structures that PBNDKB reads and, if it succeeds (ZF = 0 afterwards), writes (43 R257). -/
def pbndkbAccesses (s t : State) : List DataAccess :=
  pointerAccess s (regPointer s rbx) 256 false ++
    if t.rflags.getLsbD 6 then [] else pointerAccess s (regPointer s rcx) 256 true

/-- The table entries of the iterations completed, those whose bit of RCX is cleared (44 R291, R297); RDMSRLIST writes to
the data table. -/
def listAccesses (s t : State) (write : Bool) : List DataAccess :=
  ((List.range 64).filter fun k => (s.reg rcx).getLsbD k && !(t.reg rcx).getLsbD k).flatMap fun k =>
    entryAccesses s write k

/-- The byte of the user-MSR bitmap that URDMSR or UWRMSR reads (44 R308). -/
def bitmapAccess (s : State) (write : Bool) (a : Nat) : List DataAccess := [⟨userBitmapByte s write a, 1, false⟩]

/-- What an instruction that went from `s` to `t` accessed in memory (files 41 to 49). A remote atomic operation is a write
at its issue (41_rao R219); the hints access nothing (49 R450). -/
def dataAccesses (s t : State) : Instr → List DataAccess
  | .cpuid => []
  | .aadd32 dst _ => memAccess s dst 4 true
  | .aadd64 dst _ => memAccess s dst 8 true
  | .aand32 dst _ => memAccess s dst 4 true
  | .aand64 dst _ => memAccess s dst 8 true
  | .aor32 dst _ => memAccess s dst 4 true
  | .aor64 dst _ => memAccess s dst 8 true
  | .axor32 dst _ => memAccess s dst 4 true
  | .axor64 dst _ => memAccess s dst 8 true
  | .cmpoxadd32 m _ _ => memAccess s m 4 true
  | .cmpoxadd64 m _ _ => memAccess s m 8 true
  | .cmpnoxadd32 m _ _ => memAccess s m 4 true
  | .cmpnoxadd64 m _ _ => memAccess s m 8 true
  | .cmpbxadd32 m _ _ => memAccess s m 4 true
  | .cmpbxadd64 m _ _ => memAccess s m 8 true
  | .cmpnbxadd32 m _ _ => memAccess s m 4 true
  | .cmpnbxadd64 m _ _ => memAccess s m 8 true
  | .cmpzxadd32 m _ _ => memAccess s m 4 true
  | .cmpzxadd64 m _ _ => memAccess s m 8 true
  | .cmpnzxadd32 m _ _ => memAccess s m 4 true
  | .cmpnzxadd64 m _ _ => memAccess s m 8 true
  | .cmpbexadd32 m _ _ => memAccess s m 4 true
  | .cmpbexadd64 m _ _ => memAccess s m 8 true
  | .cmpnbexadd32 m _ _ => memAccess s m 4 true
  | .cmpnbexadd64 m _ _ => memAccess s m 8 true
  | .cmpsxadd32 m _ _ => memAccess s m 4 true
  | .cmpsxadd64 m _ _ => memAccess s m 8 true
  | .cmpnsxadd32 m _ _ => memAccess s m 4 true
  | .cmpnsxadd64 m _ _ => memAccess s m 8 true
  | .cmppxadd32 m _ _ => memAccess s m 4 true
  | .cmppxadd64 m _ _ => memAccess s m 8 true
  | .cmpnpxadd32 m _ _ => memAccess s m 4 true
  | .cmpnpxadd64 m _ _ => memAccess s m 8 true
  | .cmplxadd32 m _ _ => memAccess s m 4 true
  | .cmplxadd64 m _ _ => memAccess s m 8 true
  | .cmpnlxadd32 m _ _ => memAccess s m 4 true
  | .cmpnlxadd64 m _ _ => memAccess s m 8 true
  | .cmplexadd32 m _ _ => memAccess s m 4 true
  | .cmplexadd64 m _ _ => memAccess s m 8 true
  | .cmpnlexadd32 m _ _ => memAccess s m 4 true
  | .cmpnlexadd64 m _ _ => memAccess s m 8 true
  | .pconfig => pconfigAccesses s
  | .wrmsrns => []
  | .rdmsrlist => listAccesses s t true
  | .wrmsrlist => listAccesses s t false
  | .pbndkb => pbndkbAccesses s t
  | .mwait => []
  | .uiret => uiretAccesses s
  | .urdmsrReg _ addr => bitmapAccess s false (userMsrAddress s addr)
  | .urdmsrImm _ imm => bitmapAccess s false imm.toNat
  | .uwrmsrReg addr _ => bitmapAccess s true (userMsrAddress s addr)
  | .uwrmsrImm imm _ => bitmapAccess s true imm.toNat
  | .vpdpbssd128 _ _ b => rmAccess s b 16
  | .vpdpbssd256 _ _ b => rmAccess s b 32
  | .vpdpbssds128 _ _ b => rmAccess s b 16
  | .vpdpbssds256 _ _ b => rmAccess s b 32
  | .vpdpbsud128 _ _ b => rmAccess s b 16
  | .vpdpbsud256 _ _ b => rmAccess s b 32
  | .vpdpbsuds128 _ _ b => rmAccess s b 16
  | .vpdpbsuds256 _ _ b => rmAccess s b 32
  | .vpdpbuud128 _ _ b => rmAccess s b 16
  | .vpdpbuud256 _ _ b => rmAccess s b 32
  | .vpdpbuuds128 _ _ b => rmAccess s b 16
  | .vpdpbuuds256 _ _ b => rmAccess s b 32
  | .vpdpwsud128 _ _ b => rmAccess s b 16
  | .vpdpwsud256 _ _ b => rmAccess s b 32
  | .vpdpwsuds128 _ _ b => rmAccess s b 16
  | .vpdpwsuds256 _ _ b => rmAccess s b 32
  | .vpdpwusd128 _ _ b => rmAccess s b 16
  | .vpdpwusd256 _ _ b => rmAccess s b 32
  | .vpdpwusds128 _ _ b => rmAccess s b 16
  | .vpdpwusds256 _ _ b => rmAccess s b 32
  | .vpdpwuud128 _ _ b => rmAccess s b 16
  | .vpdpwuud256 _ _ b => rmAccess s b 32
  | .vpdpwuuds128 _ _ b => rmAccess s b 16
  | .vpdpwuuds256 _ _ b => rmAccess s b 32
  | .vpmadd52huq128 _ _ b => rmAccess s b 16
  | .vpmadd52huq256 _ _ b => rmAccess s b 32
  | .vpmadd52luq128 _ _ b => rmAccess s b 16
  | .vpmadd52luq256 _ _ b => rmAccess s b 32
  | .tdpfp16ps _ _ _ => []
  | .tcmmimfp16ps _ _ _ => []
  | .tcmmrlfp16ps _ _ _ => []
  | .vcvtneps2bf16128 _ b => rmAccess s b 16
  | .vcvtneps2bf16256 _ b => rmAccess s b 32
  | .vcvtneebf162ps128 _ m => memAccess s m 16 false
  | .vcvtneebf162ps256 _ m => memAccess s m 32 false
  | .vcvtneeph2ps128 _ m => memAccess s m 16 false
  | .vcvtneeph2ps256 _ m => memAccess s m 32 false
  | .vcvtneobf162ps128 _ m => memAccess s m 16 false
  | .vcvtneobf162ps256 _ m => memAccess s m 32 false
  | .vcvtneoph2ps128 _ m => memAccess s m 16 false
  | .vcvtneoph2ps256 _ m => memAccess s m 32 false
  | .vbcstnebf162ps128 _ m => memAccess s m 2 false
  | .vbcstnebf162ps256 _ m => memAccess s m 2 false
  | .vbcstnesh2ps128 _ m => memAccess s m 2 false
  | .vbcstnesh2ps256 _ m => memAccess s m 2 false
  | .vsha512rnds2 _ _ _ => []
  | .vsha512msg1 _ _ => []
  | .vsha512msg2 _ _ => []
  | .vsm3msg1 _ _ b => rmAccess s b 16
  | .vsm3msg2 _ _ b => rmAccess s b 16
  | .vsm3rnds2 _ _ b _ => rmAccess s b 16
  | .vsm4key4128 _ _ b => rmAccess s b 16
  | .vsm4key4256 _ _ b => rmAccess s b 32
  | .vsm4rnds4128 _ _ b => rmAccess s b 16
  | .vsm4rnds4256 _ _ b => rmAccess s b 32
  | .prefetchnta _ => []
  | .prefetcht0 _ => []
  | .prefetcht1 _ => []
  | .prefetcht2 _ => []
  | .prefetchit1 _ => []
  | .prefetchit0 _ => []

/-- The data breakpoints that the instruction matched; the enables are those it began under. -/
def dataMatches (s t : State) (i : Instr) : List (Fin 4) :=
  (List.finRange 4).filter fun x => (dataAccesses s t i).any (breakMatches s x)

/-- The outcome of an instruction begun in `s`, with the data breakpoints it matched kept for the next boundary. -/
def noteMatches (i : Instr) (s : State) (o : Host.Outcome State Fault Refusal) : Host.Outcome State Fault Refusal :=
  match o with
  | .next t => .next { t with matched := dataMatches s t i }
  | .fault f => .fault f
  | .refused r => .refused r

end Sys2Proof.Machine
end

