-- ==== Sys2Proof/Machine/Boundary.lean ====
section
/-! DEFINITION. What happens at an instruction boundary, before an instruction is fetched: time passes, the timer agents
and the memory system act, the events of the environment are taken (00_scope R12; 60 R488, R520 to R536, R550 to R566; log
8). -/

namespace Sys2Proof.Machine

/-! ## Time and the other agents -/

/-- The TSC advances by what the environment says, by 1 when it says nothing more, never wrapping: it never decreases and
reaches every deadline (70_reset R600; log 10). -/
def tick (s : State) : State :=
  { s with
    tsc := BitVec.ofNat 64 (min (s.tsc.toNat + nextChoice 1 s.env.ticks) (2 ^ 64 - 1))
    env := { s.env with ticks := s.env.ticks.tail } }

/-- User interrupts are set up: CR4.UINTR = 1 (70_reset R583). -/
def State.uintrEnabled (s : State) : Bool := s.cr4.getLsbD 25

/-- The TSC has reached the user deadline. A guest with TSC offsetting wrote it as a guest TSC value, and the comparison
is with the guest's TSC; where "RDTSC exiting" makes that conversion meaningless, with a free value (60 R524; log
38). -/
def userDeadlineReached (s : State) : Bool :=
  if s.vmx = .nonRoot ∧ s.vmcs.useTscOffset then
    if s.vmcs.rdtscExiting then decide (Config.unmeantDeadline s.userTimer.deadline ≤ s.tsc.toNat)
    else decide (s.userTimer.deadline.toNat ≤ (guestTsc s).toNat)
  else decide (s.userTimer.deadline.toNat ≤ s.tsc.toNat)

/-- `UserTimerAgent` (60 R521), where user interrupts are set up (70_reset R583). -/
def userTimerAgent (s : State) : State :=
  if s.uintrEnabled ∧ s.userTimer.deadline ≠ 0 ∧ userDeadlineReached s ∧ !s.userTimer.pending then
    { s with userTimer := { s.userTimer with deadline := 0, pending := true } }
  else s

/-- The guest-timer agent, like `UserTimerAgent`, active in VMX non-root operation with the control set (60 R521, R531,
R536). -/
def guestTimerAgent (s : State) : State :=
  if s.vmx = .nonRoot ∧ s.guestTimer.control ∧ s.guestTimer.deadline ≠ 0 ∧
      s.guestTimer.deadline.toNat ≤ s.tsc.toNat ∧ !s.guestTimer.pending then
    { s with guestTimer := { s.guestTimer with deadline := 0, pending := true } }
  else s

/-- The memory system performs queued updates: those the environment picks, all of them when it says nothing more
(41_rao R217, R218; log 9). -/
def raoAgent (s : State) : State :=
  match s.env.raoPicks with
  | [] => raoDrain s
  | picks :: rest => raoPick { s with env := { s.env with raoPicks := rest } } picks

/-! ## Interrupts and stores -/

/-- The processor is in the active state again; at the end of a monitored MWAIT the monitor hardware is set as
triggered (49 R472). -/
def State.wakeUp (s : State) : State :=
  { s with
    activity := .active
    monitor := match s.activity with
      | .mwait false _ _ => .triggered
      | _ => s.monitor }

/-- An event delivered or processed between iterations of RDMSRLIST or WRMSRLIST sets RFLAGS.RF (10_state R26,
60 R533). -/
def State.markResume (s : State) : State :=
  if s.midList then { s with rflags := s.rflags ||| 0x10000 } else s

/-- Delivery, which no source describes: terminal (60 R485; log 8). -/
def deliver (d : Delivery) (s : State) : Except Fault State := .error (.delivered d s.wakeUp.markResume)

/-- The highest set bit of a 64-bit request register. -/
def highestRequest (r : QWord) : BitVec 6 := BitVec.ofNat 6 (Nat.log2 r.toNat)

/-- A requested user interrupt is delivered if UIF = 1, CPL = 3 and user interrupts are set up (60 R488, R522; 70_reset
R583). -/
def recognizeUser (s : State) : Except Fault State :=
  if s.uirr ≠ 0 ∧ s.uif ∧ s.cpl = 3 ∧ s.uintrEnabled then deliver (.userInterrupt (highestRequest s.uirr)) s else .ok s

/-- A maskable interrupt: delivered if RFLAGS.IF = 1; a masked one ends a wait that asked for it (49 R472). -/
def onInterrupt (d : Delivery) (s : State) : Except Fault State :=
  if s.rflags.getLsbD 9 then deliver d s
  else
    match s.activity with
    | .mwait _ true _ => .ok s.wakeUp
    | _ => .ok s

/-- The monitor after a store by another agent: a device's store does not end a wait deeper than C1 (49 R472). That such a
store then leaves the monitor as it is, in a monitorless wait too, is the model's choice (DESIGN CHOICE, log 32). -/
def agentSnoop (s : State) (pas : List Nat) (processor : Bool) : Monitor :=
  match s.activity with
  | .mwait _ _ true => if processor then s.monitor.snoop pas else s.monitor
  | _ => s.monitor.snoop pas

/-- A store by another agent: its bytes appear in one step (00_scope R12d, 20_memory R87). -/
def onStore (pa : Nat) (bs : List Byte) (processor : Bool) (s : State) : Except Fault State :=
  let pas := paRange pa bs.length
  .ok { s with mem := s.mem.writeAll pas bs, monitor := agentSnoop s pas processor }

/-- IA32_QoS_Core_BW_Thrtl_n is shared with other logical processors, unless CPUID says that its scope is the logical
processor (60 R502, R570: CPUID.(10H,5):EAX[11:8] = 1). -/
def throttleShared (s : State) : Bool := decide ((cpuidQuery s 0x10 5).eax.toNat / 2 ^ 8 % 16 ≠ 1)

/-- Another logical processor writes IA32_QoS_Core_BW_Thrtl_n, a write that would not fault (60 R502). -/
def onThrottle (n : Fin 2) (v : QWord) (s : State) : Except Fault State :=
  .ok (if throttleShared s && !wrmsrFaults s (0xE00 + n) v then msrPut s (0xE00 + n) v else s)

/-- A spurious end of a wait (49 R472); what wakes HLT is outside the source (60 R503). -/
def onWake (s : State) : Except Fault State :=
  .ok (if s.activity = .hlt then s else s.wakeUp)

/-! ## Timer events -/

/-- Processing of a user-timer event, at CPL 3 only: its vector is requested; delivery follows at the end of the boundary
(60 R522, R523). -/
def onUserTimer (s : State) : Except Fault State :=
  .ok (if s.cpl = 3 ∧ s.userTimer.pending ∧ s.uintrEnabled then
      { s with
        userTimer := { s.userTimer with pending := false }
        uirr := s.uirr ||| BitVec.twoPow 64 s.userTimer.vector.toNat }
    else s)

/-- Processing of a guest-timer event (60 R532 to R534); in enclave mode an asynchronous exit comes first (R535). -/
def onGuestTimer (s : State) : Except Fault State :=
  if s.vmx = .nonRoot ∧ s.guestTimer.control ∧ s.guestTimer.pending then
    if s.enclave then deliver .enclaveExit s
    else
      let v := s.guestTimer.vector
      .ok { (if s.activity = .hlt then s else s.wakeUp).markResume with
        guestTimer := { s.guestTimer with
          virr := s.guestTimer.virr ||| BitVec.twoPow 256 v.toNat
          rvi := if s.guestTimer.rvi.toNat < v.toNat then v else s.guestTimer.rvi
          deadline := 0
          shadow := 0
          pending := false } }
  else .ok s

/-- A pending virtual interrupt is delivered to the guest (60 R532). -/
def onVirtualInterrupt (s : State) : Except Fault State :=
  if s.vmx = .nonRoot ∧ s.guestTimer.control ∧ s.guestTimer.virr ≠ 0 then
    deliver (.virtualInterrupt s.guestTimer.rvi) s
  else .ok s

/-! ## Trace triggers and debug registers (60 R560 to R565; positions: log 52) -/

/-- PERFEVTSELx.EN_PT_LOG, or DR7.DRx_PT_LOG, is set: what a trigger input depends on (60 R563). -/
def logEnabled (s : State) : TriggerInput → Bool
  | .event n => (Store.get (0 : QWord) (0x1901 + 4 * n) s.msrs).getLsbD s.platform.trace.eventLogBit
  | .overflow n => (Store.get (0 : QWord) (0x1901 + 4 * n) s.msrs).getLsbD s.platform.trace.eventLogBit
  | .debugMatch x => s.dr7.getLsbD (s.platform.trace.debugLogBit + x)

/-- IA32_RTIT_TRIGGERx_CFG of trigger unit `u` (60 R564). -/
def triggerCfg (s : State) (u : Nat) : QWord := Store.get 0 (s.platform.trace.triggerBase + u) s.msrs

/-- The input that unit `u` selects (60 R564). -/
def triggerInput (s : State) (u : Nat) : Option TriggerInput :=
  let t := s.platform.trace
  (t.inputs.find? fun e => e.1 == (triggerCfg s u).toNat / 2 ^ t.inputLow % 2 ^ t.inputWidth).map Prod.snd

/-- Unit `u` fires on one of the inputs of an instruction: it is enabled, selects the input, and what the input depends on
is set (60 R563). -/
def triggerFires (s : State) (is : List TriggerInput) (u : Nat) : Bool :=
  (triggerCfg s u).getLsbD s.platform.trace.enableBit && is.any fun i => triggerInput s u == some i && logEnabled s i

/-- The trigger units that fire on the inputs, of the number CPUID gives (60 R564). -/
def firedUnits (s : State) (is : List TriggerInput) : List Nat :=
  (List.range ((cpuidQuery s 0x14 1).eax.toNat / 2 ^ 8 % 8)).filter (triggerFires s is)

/-- The actions of the units that fire on IA32_RTIT_STATUS.Paused: pause sets it, resume clears it, both together leave
it alone (60 R561). That "both" counts over all units that fire together, not for each unit, and that inputs which come as
separate events act in turn, are the model's choice (DESIGN CHOICE, log 52). -/
def fireTriggers (s : State) (is : List TriggerInput) : State :=
  let pause := (firedUnits s is).any fun u => (triggerCfg s u).getLsbD s.platform.trace.pauseBit
  let resume := (firedUnits s is).any fun u => (triggerCfg s u).getLsbD s.platform.trace.resumeBit
  let status := Store.get 0 0x571 s.msrs
  if pause = resume then s
  else { s with msrs := Store.set 0 0x571 (if pause then status ||| 0x100 else status &&& ~~~0x100) s.msrs }

/-- Breakpoints matched together by one instruction: each with DRx_PT_LOG = 1 is a trigger input, and the units that
select one act; then any with DRx_PT_LOG = 0 is a #DB (60 R565). -/
def onMatches (xs : List (Fin 4)) (s : State) : Except Fault State :=
  let t := fireTriggers s (xs.map fun x => .debugMatch x)
  if xs.all fun x => logEnabled s (.debugMatch x) then .ok t else deliver (.exception .db) t

/-- The data breakpoints that the last instruction matched (60 R565; log 54). -/
def dataBreaks (s : State) : Except Fault State := onMatches s.matched { s with matched := [] }

/-- RIP as a linear address. -/
def linearRip (s : State) : QWord :=
  if s.in64 then s.rip else ((s.segs.cs.base + s.rip).setWidth 32).setWidth 64

/-- A code breakpoint matches the instruction about to begin at RIP; RFLAGS.RF suppresses it, and RDMSRLIST and WRMSRLIST
going on between entries do not begin (60 R565; log 54). -/
def codeMatch (s : State) (x : Fin 4) : Bool :=
  decide (s.activity = .active) && breakEnabled s x && breakKind s x == 0 && breakAddress s x == linearRip s &&
    !s.rflags.getLsbD 16 && !s.midList

/-- The code breakpoints that match. -/
def codeBreaks (s : State) : Except Fault State := onMatches ((List.finRange 4).filter (codeMatch s)) s

/-! ## PEBS (60 R553) -/

/-- The values of MSRs, read one after the other. -/
def captureMsrs (s : State) : List Nat → List QWord × State
  | [] => ([], s)
  | a :: rest =>
    let r := captureMsrs (msrRead s a).2 rest
    ((msrRead s a).1 :: r.1, r.2)

/-- The counters of 16 whose selection bit in MSR_PEBS_DATA_CFG, from bit `low` on, is set and whose MSR, at `base` and
every 4 addresses, exists. -/
def pebsSelected (s : State) (low base : Nat) : List Nat :=
  (List.range 16).filter fun x =>
    (Store.get (0 : QWord) 0x3F2 s.msrs).getLsbD (low + x) && (msrFind s (base + 4 * x)).isSome

/-- A vector with the bits given. -/
def bitVector (xs : List Nat) : DWord := xs.foldl (fun v x => v ||| BitVec.twoPow 32 x) 0

/-- A PEBS record with its Counters group (60 R553): the selected counters are captured in order; with the Metrics group
and bit 51, so are the metrics base (taken as IA32_FIXED_CTR3 itself, log 52) and MSR_PERF_METRICS, and both are then
cleared. -/
def onPebs (counters metrics : Bool) (s : State) : Except Fault State :=
  let pmcs := if counters then pebsSelected s 32 0x1900 else []
  let fixed := if counters then pebsSelected s 48 0x1980 else []
  let withMetrics := metrics && (Store.get (0 : QWord) 0x3F2 s.msrs).getLsbD 51
  let r := captureMsrs s (pmcs.map (0x1900 + 4 * ·) ++ fixed.map (0x1980 + 4 * ·) ++
    (if withMetrics then [0x198C, 0x329] else []))
  let t := { r.2 with pebs := s.pebs ++ [⟨bitVector pmcs, bitVector fixed, if withMetrics then 3 else 0, r.1⟩] }
  .ok (if withMetrics then { t with msrs := Store.set 0 0x198C 0 (Store.set 0 0x329 0 t.msrs) } else t)

/-- The size of the Counters group in bytes (60 R553). -/
def PebsCounters.size (g : PebsCounters) : Nat := 16 + 8 * g.values.length

/-! ## Events -/

/-- One event of the environment. -/
def onEvent (s : State) : Event → Except Fault State
  | .interrupt v => onInterrupt (.interrupt v) s
  | .nmi => deliver .nmi s
  | .smi => deliver .smi s
  | .init => deliver .init s
  | .reset => deliver .reset s
  | .pmi v => onInterrupt (.pmi v) s
  | .debug => deliver (.exception .db) s
  | .machineCheck => deliver (.exception .mc) s
  | .userInterrupt v => .ok { s with uirr := s.uirr ||| BitVec.twoPow 64 v.toNat }
  | .store pa bs processor => onStore pa bs processor s
  | .tmeKey k e => .ok (if tmeProgramLegal s k e then s.setTmeKey k e else s)
  | .tseKey k e => .ok (if tseProgramLegal s k e then s.setTseKey k e else s)
  | .throttle n v => onThrottle n v s
  | .wake => onWake s
  | .userTimer => onUserTimer s
  | .guestTimer => onGuestTimer s
  | .virtualInterrupt => onVirtualInterrupt s
  | .perfEvent n => .ok (fireTriggers s [.event n])
  | .perfOverflow n => .ok (fireTriggers s [.overflow n])
  | .pebsRecord counters metrics => onPebs counters metrics s

/-- The events at this boundary. When the environment says nothing more, pending timer events are processed
(70_reset R601 c, d; log 8). -/
def boundaryEvents (s : State) : List Event := nextChoice [.userTimer, .guestTimer] s.env.events

/-- The events at this boundary are taken, in their order. -/
def takeEvents (s : State) : Except Fault State :=
  (boundaryEvents s).foldlM onEvent { s with env := { s.env with events := s.env.events.tail } }

/-- A monitored wait ends when the monitor is triggered (49 R472, R473). That UMWAIT ends so too, and TPAUSE by events
only, is the model's choice: what ends them is outside the source (10_state R72; DESIGN CHOICE, log 32). -/
def endMonitoredWait (s : State) : State :=
  if s.monitor = .triggered then
    match s.activity with
    | .mwait false _ _ => s.wakeUp
    | .umwait => s.wakeUp
    | _ => s
  else s

/-- Everything that happens before an instruction is fetched. No source fixes an order among the agents: that the TSC
comes first, then the timers, the memory system, the data breakpoints of the last instruction, the events in the
environment's order, the end of a wait, user interrupts and code breakpoints is the model's choice (DESIGN CHOICE, log
57). RFLAGS.TF raises nothing here: the single-step trap is in no source (10_state R26), and a #DB that it would cause is
the environment's event `debug`, whatever TF is (DESIGN CHOICE, log 54). -/
def boundary (s : State) : Except Fault State := do
  let r ← dataBreaks (raoAgent (guestTimerAgent (userTimerAgent (tick s))))
  let t ← takeEvents r
  let u ← recognizeUser (endMonitoredWait t)
  let v ← codeBreaks u
  return { v with midList := false }

/-! ## The end of a run -/

/-- The state a fault leaves. -/
def Fault.state : Fault → State
  | .exception _ _ _ s => s
  | .vmExit _ _ _ _ s => s
  | .delivered _ s => s
  | .noPhysicalAddress _ s => s

/-- No queued update is left: a run that stops before that is not finished (41_rao R217, 10_state R75). -/
def State.finished (s : State) : Bool := s.rao.isEmpty

/-- The state in which a run that stopped is finished: the memory system goes on and performs what is queued
(41_rao R217; log 9). -/
def Fault.finalState (f : Fault) : State := raoDrain f.state

end Sys2Proof.Machine
end

