-- ==== Sys2Proof/Machine/NeConvert.lean ====
section
/-! DEFINITION. The AVX-NE-CONVERT instructions and their number formats (45_avx_ne_convert). -/

namespace Sys2Proof.Machine

/-! ## Conversions (45 R332, R341) -/

/-- `bf16_to_fp32` (45 R332). -/
def bf16ToFp32 (h : BitVec 16) : DWord := h ++ (0 : BitVec 16)

/-- `fp16_to_fp32` (45 R332); `quiet` is `NE_FP16_SNAN` (93 U15). -/
def fp16ToFp32 (quiet : Bool) (h : BitVec 16) : DWord :=
  let sign : BitVec 1 := h.extractLsb' 15 1
  let e := (h.extractLsb' 10 5).toNat
  let f : BitVec 10 := h.extractLsb' 0 10
  if e = 0 then
    if f = 0 then sign ++ (0 : BitVec 31)
    else
      let k := Nat.log2 f.toNat
      sign ++ BitVec.ofNat 8 (103 + k) ++ BitVec.ofNat 23 (f.toNat * 2 ^ (23 - k))
  else if e = 31 then
    if f = 0 then sign ++ (0xFF : BitVec 8) ++ (0 : BitVec 23)
    else
      let q : BitVec 1 := if quiet then 1 else f.extractLsb' 9 1
      sign ++ (0xFF : BitVec 8) ++ q ++ f.extractLsb' 0 9 ++ (0 : BitVec 13)
  else sign ++ BitVec.ofNat 8 (e + 112) ++ f ++ (0 : BitVec 13)

/-- `fp16_to_fp32` as the platform does it. -/
def State.fp16 (s : State) (h : BitVec 16) : DWord := fp16ToFp32 (!s.platform.fp16SNaNPreserved) h

/-- `convert_fp32_to_bfloat16` (45 R341): nearest even, denormals to zero, no exception. -/
def fp32ToBf16 (x : DWord) : BitVec 16 :=
  let e : BitVec 8 := x.extractLsb' 23 8
  if e = 0 then x.extractLsb' 31 1 ++ (0 : BitVec 15)
  else if e = 0xFF then
    if x.extractLsb' 0 23 = (0 : BitVec 23) then x.extractLsb' 16 16
    else x.extractLsb' 16 16 ||| 0x40
  else (x + 0x7FFF + (x.extractLsb' 16 1 : BitVec 1).setWidth 32).extractLsb' 16 16

/-! ## Shapes -/

/-- A packed conversion from a source of `n` bytes to `k` elements (45 R333, R334). -/
def neConvert {w : Nat} (s : State) (d : RegNum) (b : RM) (n k : Nat) (f : Vec → Nat → BitVec w) :
    Host.Outcome State Fault Refusal :=
  vexOp s [.avxNeConvert] d b n fun v => pack k (f v)

/-- Load one 16-bit element, convert, and broadcast to `k` dwords; Type 5, so alignment may be checked
(45 R334 to R336). -/
def neBroadcast (s : State) (d : RegNum) (m : MemOp) (k : Nat) (f : BitVec 16 → DWord) :
    Host.Outcome State Fault Refusal :=
  settle s do
    vexCheck s [.avxNeConvert]
    let bs ← memReadChecked s (memPointer s m) 2
    return s.setVreg d (pack k fun _ => f (BitVec.ofNat 16 (leNat bs)))

/-- The even words converted (45 R337, R338). -/
def evenWords (f : BitVec 16 → DWord) (v : Vec) (j : Nat) : DWord := f (word16 v (2 * j))

/-- The odd words converted (45 R339, R340). -/
def oddWords (f : BitVec 16 → DWord) (v : Vec) (j : Nat) : DWord := f (word16 v (2 * j + 1))

/-! ## Instructions -/

/-- VBCSTNEBF162PS, 128-bit (45 R335). -/
def execVbcstnebf162ps128 (d : RegNum) (m : MemOp) (s : State) : Host.Outcome State Fault Refusal :=
  neBroadcast s d m 4 bf16ToFp32

/-- VBCSTNEBF162PS, 256-bit (45 R335). -/
def execVbcstnebf162ps256 (d : RegNum) (m : MemOp) (s : State) : Host.Outcome State Fault Refusal :=
  neBroadcast s d m 8 bf16ToFp32

/-- VBCSTNESH2PS, 128-bit (45 R336). -/
def execVbcstnesh2ps128 (d : RegNum) (m : MemOp) (s : State) : Host.Outcome State Fault Refusal :=
  neBroadcast s d m 4 s.fp16

/-- VBCSTNESH2PS, 256-bit (45 R336). -/
def execVbcstnesh2ps256 (d : RegNum) (m : MemOp) (s : State) : Host.Outcome State Fault Refusal :=
  neBroadcast s d m 8 s.fp16

/-- VCVTNEEBF162PS, 128-bit (45 R337). -/
def execVcvtneebf162ps128 (d : RegNum) (m : MemOp) (s : State) : Host.Outcome State Fault Refusal :=
  neConvert s d (.mem m) 16 4 (evenWords bf16ToFp32)

/-- VCVTNEEBF162PS, 256-bit (45 R337). -/
def execVcvtneebf162ps256 (d : RegNum) (m : MemOp) (s : State) : Host.Outcome State Fault Refusal :=
  neConvert s d (.mem m) 32 8 (evenWords bf16ToFp32)

/-- VCVTNEEPH2PS, 128-bit (45 R338). -/
def execVcvtneeph2ps128 (d : RegNum) (m : MemOp) (s : State) : Host.Outcome State Fault Refusal :=
  neConvert s d (.mem m) 16 4 (evenWords s.fp16)

/-- VCVTNEEPH2PS, 256-bit (45 R338). -/
def execVcvtneeph2ps256 (d : RegNum) (m : MemOp) (s : State) : Host.Outcome State Fault Refusal :=
  neConvert s d (.mem m) 32 8 (evenWords s.fp16)

/-- VCVTNEOBF162PS, 128-bit (45 R339). -/
def execVcvtneobf162ps128 (d : RegNum) (m : MemOp) (s : State) : Host.Outcome State Fault Refusal :=
  neConvert s d (.mem m) 16 4 (oddWords bf16ToFp32)

/-- VCVTNEOBF162PS, 256-bit (45 R339). -/
def execVcvtneobf162ps256 (d : RegNum) (m : MemOp) (s : State) : Host.Outcome State Fault Refusal :=
  neConvert s d (.mem m) 32 8 (oddWords bf16ToFp32)

/-- VCVTNEOPH2PS, 128-bit (45 R340). -/
def execVcvtneoph2ps128 (d : RegNum) (m : MemOp) (s : State) : Host.Outcome State Fault Refusal :=
  neConvert s d (.mem m) 16 4 (oddWords s.fp16)

/-- VCVTNEOPH2PS, 256-bit (45 R340). -/
def execVcvtneoph2ps256 (d : RegNum) (m : MemOp) (s : State) : Host.Outcome State Fault Refusal :=
  neConvert s d (.mem m) 32 8 (oddWords s.fp16)

/-- VCVTNEPS2BF16 from 128 bits (45 R341). -/
def execVcvtneps2bf16128 (d : RegNum) (b : RM) (s : State) : Host.Outcome State Fault Refusal :=
  neConvert s d b 16 4 fun v i => fp32ToBf16 (dword v i)

/-- VCVTNEPS2BF16 from 256 bits (45 R341). -/
def execVcvtneps2bf16256 (d : RegNum) (b : RM) (s : State) : Host.Outcome State Fault Refusal :=
  neConvert s d b 32 8 fun v i => fp32ToBf16 (dword v i)

end Sys2Proof.Machine
end

