-- ==== Sys2Proof/Machine/Amx.lean ====
section
/-! DEFINITION. The AMX instructions TDPFP16PS, TCMMIMFP16PS, TCMMRLFP16PS, tiles and their arithmetic (48_amx). -/

namespace Sys2Proof.Machine

/-! ## Tiles -/

/-- TILES_CONFIGURED (48 R413). -/
def State.tilesConfigured (s : State) : Bool := s.tilecfg.palette != 0

/-- A tile register (48 R412); the instructions check that the number is below 8. -/
def State.tile (s : State) (t : RegNum) : Vector Vec 16 := s.tiles[t.toNat % 8]'(Nat.mod_lt _ (by decide))

/-- Write a tile register. -/
def State.setTile (s : State) (t : RegNum) (v : Vector Vec 16) : State :=
  { s with tiles := s.tiles.set (t.toNat % 8) v (Nat.mod_lt _ (by decide)) }

/-- The configured rows of a tile. -/
def State.tileRows (s : State) (t : RegNum) : Nat :=
  (s.tilecfg.rows[t.toNat % 8]'(Nat.mod_lt _ (by decide))).toNat

/-- The configured bytes per row of a tile. -/
def State.tileColsb (s : State) (t : RegNum) : Nat :=
  (s.tilecfg.colsb[t.toNat % 8]'(Nat.mod_lt _ (by decide))).toNat

/-- Row `r` of a tile; its FP16 and dword elements are little-endian (48 R412). -/
def tileRow (v : Vector Vec 16) (r : Nat) : Vec := (v[r]?).getD 0

/-- `zero_tilecfg_start` (48 R416). -/
def State.zeroStartRow (s : State) : State := { s with tilecfg := { s.tilecfg with startRow := 0 } }

/-- `zero_all_tile_data` (48 R416). -/
def State.zeroAllTileData (s : State) : State :=
  if s.xcr0.getLsbD 18 then { s with tiles := Vector.replicate 8 (Vector.replicate 16 0) } else s

/-- `xcr0_supports_palette` (48 R416). -/
def State.supportsPalette (s : State) (id : Nat) : Bool :=
  match id with
  | 0 => true
  | 1 => s.xcr0.getLsbD 17 && s.xcr0.getLsbD 18
  | _ => false

/-- The 64-byte image of TILECFG (48 R415). -/
def tileCfgImage (c : TileCfg) : List Byte :=
  if c.palette = 0 then leBytes 64 0
  else [c.palette, c.startRow] ++ leBytes 14 0 ++ c.colsb.toList.flatMap (fun w => leBytes 2 w.toNat) ++ leBytes 16 0 ++
    c.rows.toList ++ leBytes 8 0

/-- TILECFG from its 64-byte image (48 R415). -/
def tileCfgOfImage (bs : List Byte) : TileCfg :=
  if bs.getD 0 0 = 0 then resetTileCfg
  else
    { palette := bs.getD 0 0
      startRow := bs.getD 1 0
      rows := Vector.ofFn fun t : Fin 8 => bs.getD (48 + t) 0
      colsb := Vector.ofFn fun t : Fin 8 => bs.getD (17 + 2 * t) 0 ++ bs.getD (16 + 2 * t) 0 }

/-! ## FP32 arithmetic (48 R421) -/

/-- Sign bit. -/
def fpSign (x : DWord) : Bool := x.msb

/-- Biased exponent. -/
def fpExp (x : DWord) : Nat := x.toNat / 2 ^ 23 % 2 ^ 8

/-- Fraction. -/
def fpFrac (x : DWord) : Nat := x.toNat % 2 ^ 23

/-- Not a number. -/
def fpNaN (x : DWord) : Bool := fpExp x == 255 && fpFrac x != 0

/-- An infinity. -/
def fpInf (x : DWord) : Bool := fpExp x == 255 && fpFrac x == 0

/-- A finite value in units of 2^-149; denormals are read as zero (48 R421). -/
def fpUnits (x : DWord) : Int :=
  let n : Nat := if fpExp x = 0 then 0 else (2 ^ 23 + fpFrac x) * 2 ^ (fpExp x - 1)
  if fpSign x then -(n : Int) else n

/-- A NaN with its quiet bit set. -/
def fpQuiet (x : DWord) : DWord := x ||| 0x00400000

/-- The NaN of an invalid operation (48 R421; PRESUMED, log 15). -/
def fpDefaultNaN : DWord := 0xFFC00000

/-- A magnitude with a sign. -/
def fpSigned (sign : Bool) (magnitude : Nat) : DWord := BitVec.ofNat 32 (magnitude + if sign then 2 ^ 31 else 0)

/-- Divide by 2^n, to the nearest, ties to even. -/
def roundNearestEven (x n : Nat) : Nat :=
  let q := x / 2 ^ n
  let r := 2 * (x % 2 ^ n)
  if r < 2 ^ n then q else if 2 ^ n < r then q + 1 else q + q % 2

/-- Round `x` in units of 2^-(149 + k) to FP32, to the nearest, ties to even; a denormal result becomes a zero of its
sign (48 R421). -/
def fpRound (k : Nat) (x : Int) : DWord :=
  let n := x.natAbs
  let shift := max k (Nat.log2 n - 23)
  let bits := (shift - k) * 2 ^ 23 + roundNearestEven n shift
  fpSigned (decide (x < 0)) (if bits < 2 ^ 23 then 0 else min bits 0x7F800000)

/-- The sum of two terms that are no NaN, each given by whether it is infinite, its sign, and its value in units of
2^-(149 + k). -/
def fpSum (k : Nat) (inf1 sign1 : Bool) (x1 : Int) (inf2 sign2 : Bool) (x2 : Int) : DWord :=
  if inf1 && inf2 && sign1 != sign2 then fpDefaultNaN
  else if inf1 then fpSigned sign1 0x7F800000
  else if inf2 then fpSigned sign2 0x7F800000
  else if x1 + x2 = 0 then fpSigned (sign1 && sign2) 0
  else fpRound k (x1 + x2)

/-- `add_ftz` (48 R421). -/
def addFtz (a b : DWord) : DWord :=
  if fpNaN a then fpQuiet a
  else if fpNaN b then fpQuiet b
  else fpSum 0 (fpInf a) (fpSign a) (fpUnits a) (fpInf b) (fpSign b) (fpUnits b)

/-- `fma_ftz` (48 R421). -/
def fmaFtz (a b c : DWord) : DWord :=
  if fpNaN a then fpQuiet a
  else if fpNaN b then fpQuiet b
  else if fpNaN c then fpQuiet c
  else if (fpInf a && fpUnits b == 0) || (fpInf b && fpUnits a == 0) then fpDefaultNaN
  else fpSum 149 (fpInf a || fpInf b) (fpSign a != fpSign b) (fpUnits a * fpUnits b)
    (fpInf c) (fpSign c) (fpUnits c * 2 ^ 149)

/-! ## One element -/

/-- The three instructions. -/
inductive AmxOp where
  | dot | imaginary | real
  deriving DecidableEq, Repr

/-- The number of a variant, as the free results are told apart. -/
def AmxOp.number : AmxOp → Nat
  | .dot => 0
  | .imaginary => 1
  | .real => 2

/-- The two products of a pair of dwords, as FP32 factors (48 R422, R423, R424). -/
def amxFactors (op : AmxOp) (a b : DWord) : (DWord × DWord) × (DWord × DWord) :=
  let cvt := fp16ToFp32 true
  let al := cvt (word16 a 0)
  let ah := cvt (word16 a 1)
  let bl := cvt (word16 b 0)
  let bh := cvt (word16 b 1)
  match op with
  | .dot => ((al, bl), (ah, bh))
  | .imaginary => ((ah, bl), (al, bh))
  | .real => ((al, bl), (ah ^^^ 0x80000000, bh))

/-- One output element by the reference order (48 R422). -/
def amxReferenceElement (op : AmxOp) (c : DWord) (pairs : List (DWord × DWord)) : DWord :=
  let t0 := pairs.foldl (fun t p => let f := (amxFactors op p.1 p.2).1; fmaFtz f.1 f.2 t) 0
  let t1 := pairs.foldl (fun t p => let f := (amxFactors op p.1 p.2).2; fmaFtz f.1 f.2 t) 0
  addFtz c (addFtz t0 t1)

/-- All the factors of one element. -/
def amxAllFactors (op : AmxOp) (pairs : List (DWord × DWord)) : List (DWord × DWord) :=
  pairs.flatMap fun p => [(amxFactors op p.1 p.2).1, (amxFactors op p.1 p.2).2]

/-- A product of two factors is not a number: a factor is none, or one is infinite and the other zero. -/
def amxProductNaN (f : DWord × DWord) : Bool :=
  fpNaN f.1 || fpNaN f.2 || (fpInf f.1 && fpUnits f.2 == 0) || (fpInf f.2 && fpUnits f.1 == 0)

/-- The signs of the infinite terms of an element: the accumulator, and the products of an infinite factor. -/
def amxInfSigns (c : DWord) (fs : List (DWord × DWord)) : List Bool :=
  (if fpInf c then [fpSign c] else []) ++
    (fs.filter fun f => fpInf f.1 || fpInf f.2).map fun f => fpSign f.1 != fpSign f.2

/-- The element is not a number in every order: an input or a product is none, or infinities of both signs meet. -/
def amxCertainNaN (op : AmxOp) (c : DWord) (pairs : List (DWord × DWord)) : Bool :=
  let fs := amxAllFactors op pairs
  fpNaN c || fs.any amxProductNaN || ((amxInfSigns c fs).contains true && (amxInfSigns c fs).contains false)

/-- A product that is exactly minus zero. -/
def negativeZero (f : DWord × DWord) : Bool := fpUnits f.1 * fpUnits f.2 == 0 && fpSign f.1 != fpSign f.2

/-- Every admissible order of accumulation gives the same element, which is a number: infinities of one sign, or only
finite inputs, an accumulator that is no denormal, every partial sum exact, and not a sum of minus zeros (48 R421). Terms
are in units of 2^-298; FP16 products are multiples of 2^-48, so that no partial sum of exact terms is a denormal. -/
def amxExact (op : AmxOp) (c : DWord) (pairs : List (DWord × DWord)) : Bool :=
  let fs := amxAllFactors op pairs
  let terms := (fpUnits c * 2 ^ 149) :: fs.map fun f => fpUnits f.1 * fpUnits f.2
  let total := (terms.map Int.natAbs).sum
  let grain := terms.foldl (fun g x => Nat.gcd g x.natAbs) (2 ^ 512)
  !amxCertainNaN op c pairs &&
    (!(amxInfSigns c fs).isEmpty ||
      ((fpExp c != 0 || fpFrac c == 0) && !(fpSign c && fpUnits c == 0 && fs.all negativeZero) &&
        decide (total ≤ 2 ^ 24 * grain) && decide (total < 2 ^ 426)))

/-- A partial sum: no number, an infinity, or an exact value in units of 2^-298, with the sign of a zero. -/
inductive AmxValue where
  | nan
  | inf (sign : Bool)
  | fin (sign : Bool) (x : Int)
  deriving DecidableEq, Repr

/-- The exact sum of two partial sums; a zero is negative only if both terms are. -/
def AmxValue.add (a b : AmxValue) : AmxValue :=
  match a, b with
  | .nan, _ => .nan
  | _, .nan => .nan
  | .inf p, .inf q => if p = q then .inf p else .nan
  | .inf p, .fin _ _ => .inf p
  | .fin _ _, .inf q => .inf q
  | .fin p x, .fin q y => if x + y = 0 then .fin (p && q) 0 else .fin (decide (x + y < 0)) (x + y)

/-- A partial sum rounded to FP32; a denormal becomes a zero, tininess being decided on the exact value if `before`
(48 R421). -/
def AmxValue.toFp32 (before : Bool) (nan : DWord) : AmxValue → DWord
  | .nan => nan ||| 0x7FC00000
  | .inf p => fpSigned p 0x7F800000
  | .fin p x => if x = 0 || (before && decide (x.natAbs < 2 ^ 172)) then fpSigned p 0 else fpRound 149 x

/-- An FP32 number as a partial sum; a denormal has its value if `denormals`, else it is a zero. -/
def AmxValue.ofFp32 (denormals : Bool) (w : DWord) : AmxValue :=
  if fpNaN w then .nan
  else if fpInf w then .inf (fpSign w)
  else .fin (fpSign w)
    ((fpUnits w + if fpExp w = 0 ∧ denormals then (if fpSign w then -(fpFrac w : Int) else fpFrac w) else 0) * 2 ^ 149)

/-- A product of two factors, exact. -/
def amxProduct (f : DWord × DWord) : AmxValue :=
  if amxProductNaN f then .nan
  else if fpInf f.1 || fpInf f.2 then .inf (fpSign f.1 != fpSign f.2)
  else .fin (fpSign f.1 != fpSign f.2) (fpUnits f.1 * fpUnits f.2)

/-- The neutral partial sum. -/
def AmxValue.zero : AmxValue := .fin true 0

/-- Partial sums brought together by the steps of an order; each is used once, whatever the positions. -/
def amxCombine (round : AmxValue → AmxValue) : List (Nat × Nat × Bool) → List AmxValue → AmxValue
  | [], vs => vs.foldl AmxValue.add .zero
  | (i, j, r) :: rest, vs =>
    let x := vs.getD i .zero
    let ws := vs.eraseIdx i
    let sum := x.add (ws.getD j .zero)
    amxCombine round rest ((if r then round sum else sum) :: ws.eraseIdx j)

/-- The element that an order of accumulation gives (48 R421). -/
def amxOrdered (o : AmxOrder) (nan : DWord) (op : AmxOp) (c : DWord) (pairs : List (DWord × DWord)) : DWord :=
  let terms := AmxValue.ofFp32 o.readDenormals c :: (amxAllFactors op pairs).map amxProduct
  let start := if o.startsAtZero then [AmxValue.fin false 0] else []
  (amxCombine (fun v => .ofFp32 false (v.toFp32 o.flushBefore nan)) o.steps (terms ++ start)).toFp32 o.flushBefore nan

/-- `AMX_FP_RESULT`: the reference where the platform follows it or every partial sum is exact; else what some free order
of accumulation gives, so that the element is known where every order agrees (48 R421, 92 D15, 93 U16; log 15). -/
def amxElement (s : State) (op : AmxOp) (c : DWord) (pairs : List (DWord × DWord)) : DWord :=
  if s.platform.amxReference || amxExact op c pairs then amxReferenceElement op c pairs
  else amxOrdered (Config.amxOrder op.number c pairs) (Config.amxNaN op.number c pairs) op c pairs

/-! ## Instructions -/

/-- A configured tile is valid and fits the configured palette (48 R411, R412). -/
def tileLegal (s : State) (t : RegNum) : Bool :=
  let l := paletteLimits s s.tilecfg.palette.toNat
  decide (t.toNat < l.names) && decide (1 ≤ s.tileRows t) && decide (s.tileRows t ≤ l.rows) &&
    decide (1 ≤ s.tileColsb t) && decide (s.tileColsb t ≤ l.bytesPerRow) && decide (s.tileColsb t % 4 = 0)

/-- The dimensions match for C[M][N] += A[M][K] * B[K][N] and fit the TMUL unit (48 R418, R425). -/
def tileDimsMatch (s : State) (d a b : RegNum) : Bool :=
  s.tileRows d == s.tileRows a && s.tileColsb d == s.tileColsb b && s.tileColsb a / 4 == s.tileRows b &&
    decide (s.tileColsb b ≤ tmulMaxN s) && decide (s.tileRows b ≤ tmulMaxK s)

/-- Exception class AMX-E4 (48 R425), with the enables of every VEX instruction (00_scope R11, 10_state R52). That every
#UD, those of the tile configuration among them, comes before #NM is the model's choice (DESIGN CHOICE, log 43). -/
def amxCheck (s : State) (f : Feature) (d a b : RegNum) : Except Stop Unit := do
  need (s.in64 && enumerated s f && s.avxEnabled && s.xcr0.getLsbD 17 && s.xcr0.getLsbD 18) ud
  need (s.tilesConfigured && tileLegal s d && tileLegal s a && tileLegal s b && d != a && d != b && a != b &&
    tileDimsMatch s d a b) ud
  need (!s.taskSwitched) (.exc .nm 0)

/-- The pairs of source dwords of output element (`m`, `n`), in order of `k` (48 R422). -/
def amxPairs (s : State) (a b : RegNum) (m n : Nat) : List (DWord × DWord) :=
  (List.range (s.tileColsb a / 4)).map fun k => (dword (tileRow (s.tile a) m) k, dword (tileRow (s.tile b) k) n)

/-- The destination tile: each configured row is written and zeroed beyond its bytes, the rows below are zero
(48 R417, R422). -/
def amxTile (s : State) (op : AmxOp) (d a b : RegNum) : Vector Vec 16 :=
  Vector.ofFn fun m : Fin 16 =>
    if m.val < s.tileRows d then
      pack (s.tileColsb d / 4) fun n =>
        amxElement s op (dword (tileRow (s.tile d) m.val) n) (amxPairs s a b m.val n)
    else 0

/-- A tile matrix multiplication (48 R422 to R425). -/
def amxMultiply (s : State) (f : Feature) (op : AmxOp) (d a b : RegNum) : Host.Outcome State Fault Refusal :=
  settle s do
    amxCheck s f d a b
    return (s.setTile d (amxTile s op d a b)).zeroStartRow

/-- TDPFP16PS (48 R422). -/
def execTdpfp16ps (d a b : RegNum) (s : State) : Host.Outcome State Fault Refusal :=
  amxMultiply s .amxFp16 .dot d a b

/-- TCMMIMFP16PS (48 R423). -/
def execTcmmimfp16ps (d a b : RegNum) (s : State) : Host.Outcome State Fault Refusal :=
  amxMultiply s .amxComplex .imaginary d a b

/-- TCMMRLFP16PS (48 R424). -/
def execTcmmrlfp16ps (d a b : RegNum) (s : State) : Host.Outcome State Fault Refusal :=
  amxMultiply s .amxComplex .real d a b

end Sys2Proof.Machine
end

