-- ==== Sys2Proof/Machine/CmpccXadd.lean ====
section
/-! DEFINITION. CMPccXADD (42_cmpccxadd): one locked read-modify-write, the flags of a comparison. -/

namespace Sys2Proof.Machine

/-- The checks of the locked access to `n` bytes: the address pipeline for a write, alignment only under alignment
checking (R235), UC-lock and split-lock disable (60 R510, R511). -/
def lockedAccess (s : State) (m : MemOp) (n : Nat) : Except Stop (List Nat) := do
  let la ← linearOf s (memPointer s m) n
  let pas ← access s (memPointer s m) n .write false (if s.alignChecked then n else 1) (.exc .ac 0)
  ucLockCheck s (writeBack s (s.userAccess false) la pas)
  need (!splitLocked s la n) (.exc .ac 0)
  return pas

/-- The effect of CMPccXADD of width `w` on the bytes at `pas` (R231): pending remote atomic updates come first
(41_rao R218 item 5); memory is written whether the condition holds or not. -/
def cmpccEffect (w : Nat) (c : Cond) (pas : List Nat) (a b : RegNum) (s : State) : State :=
  let t := raoDrain s
  let old := BitVec.ofNat w (leNat (t.bytesAt pas))
  let f := cmpStatus old ((s.reg a).setWidth w)
  let new := if c.holds f then old + (s.reg b).setWidth w else old
  { (t.storeBytes pas (leBytes (w / 8) new.toNat)).setReg a (old.setWidth 64) with rflags := withStatus s.rflags f }

/-- CMPccXADD of width `w` (R230, R231, R235); its encoding is VEX, so that it needs the XSAVE enables (00_scope R11;
log 43). -/
def cmpccxadd (w : Nat) (c : Cond) (m : MemOp) (a b : RegNum) (s : State) : Host.Outcome State Fault Refusal :=
  settle s do
    need (s.in64 && enumerated s .cmpccxadd && s.avxEnabled) ud
    let pas ← lockedAccess s m (w / 8)
    return cmpccEffect w c pas a b s

/-- CMPOXADD, 32-bit form (42 R246). -/
def execCmpoxadd32 (m : MemOp) (a b : RegNum) (s : State) : Host.Outcome State Fault Refusal :=
  cmpccxadd 32 .o m a b s

/-- CMPOXADD, 64-bit form (42 R246). -/
def execCmpoxadd64 (m : MemOp) (a b : RegNum) (s : State) : Host.Outcome State Fault Refusal :=
  cmpccxadd 64 .o m a b s

/-- CMPNOXADD, 32-bit form (42 R245). -/
def execCmpnoxadd32 (m : MemOp) (a b : RegNum) (s : State) : Host.Outcome State Fault Refusal :=
  cmpccxadd 32 .no m a b s

/-- CMPNOXADD, 64-bit form (42 R245). -/
def execCmpnoxadd64 (m : MemOp) (a b : RegNum) (s : State) : Host.Outcome State Fault Refusal :=
  cmpccxadd 64 .no m a b s

/-- CMPBXADD, 32-bit form (42 R238). -/
def execCmpbxadd32 (m : MemOp) (a b : RegNum) (s : State) : Host.Outcome State Fault Refusal :=
  cmpccxadd 32 .b m a b s

/-- CMPBXADD, 64-bit form (42 R238). -/
def execCmpbxadd64 (m : MemOp) (a b : RegNum) (s : State) : Host.Outcome State Fault Refusal :=
  cmpccxadd 64 .b m a b s

/-- CMPNBXADD, 32-bit form (42 R242). -/
def execCmpnbxadd32 (m : MemOp) (a b : RegNum) (s : State) : Host.Outcome State Fault Refusal :=
  cmpccxadd 32 .nb m a b s

/-- CMPNBXADD, 64-bit form (42 R242). -/
def execCmpnbxadd64 (m : MemOp) (a b : RegNum) (s : State) : Host.Outcome State Fault Refusal :=
  cmpccxadd 64 .nb m a b s

/-- CMPZXADD, 32-bit form (42 R252). -/
def execCmpzxadd32 (m : MemOp) (a b : RegNum) (s : State) : Host.Outcome State Fault Refusal :=
  cmpccxadd 32 .z m a b s

/-- CMPZXADD, 64-bit form (42 R252). -/
def execCmpzxadd64 (m : MemOp) (a b : RegNum) (s : State) : Host.Outcome State Fault Refusal :=
  cmpccxadd 64 .z m a b s

/-- CMPNZXADD, 32-bit form (42 R251). -/
def execCmpnzxadd32 (m : MemOp) (a b : RegNum) (s : State) : Host.Outcome State Fault Refusal :=
  cmpccxadd 32 .nz m a b s

/-- CMPNZXADD, 64-bit form (42 R251). -/
def execCmpnzxadd64 (m : MemOp) (a b : RegNum) (s : State) : Host.Outcome State Fault Refusal :=
  cmpccxadd 64 .nz m a b s

/-- CMPBEXADD, 32-bit form (42 R237). -/
def execCmpbexadd32 (m : MemOp) (a b : RegNum) (s : State) : Host.Outcome State Fault Refusal :=
  cmpccxadd 32 .be m a b s

/-- CMPBEXADD, 64-bit form (42 R237). -/
def execCmpbexadd64 (m : MemOp) (a b : RegNum) (s : State) : Host.Outcome State Fault Refusal :=
  cmpccxadd 64 .be m a b s

/-- CMPNBEXADD, 32-bit form (42 R241). -/
def execCmpnbexadd32 (m : MemOp) (a b : RegNum) (s : State) : Host.Outcome State Fault Refusal :=
  cmpccxadd 32 .nbe m a b s

/-- CMPNBEXADD, 64-bit form (42 R241). -/
def execCmpnbexadd64 (m : MemOp) (a b : RegNum) (s : State) : Host.Outcome State Fault Refusal :=
  cmpccxadd 64 .nbe m a b s

/-- CMPSXADD, 32-bit form (42 R250). -/
def execCmpsxadd32 (m : MemOp) (a b : RegNum) (s : State) : Host.Outcome State Fault Refusal :=
  cmpccxadd 32 .s m a b s

/-- CMPSXADD, 64-bit form (42 R250). -/
def execCmpsxadd64 (m : MemOp) (a b : RegNum) (s : State) : Host.Outcome State Fault Refusal :=
  cmpccxadd 64 .s m a b s

/-- CMPNSXADD, 32-bit form (42 R249). -/
def execCmpnsxadd32 (m : MemOp) (a b : RegNum) (s : State) : Host.Outcome State Fault Refusal :=
  cmpccxadd 32 .ns m a b s

/-- CMPNSXADD, 64-bit form (42 R249). -/
def execCmpnsxadd64 (m : MemOp) (a b : RegNum) (s : State) : Host.Outcome State Fault Refusal :=
  cmpccxadd 64 .ns m a b s

/-- CMPPXADD, 32-bit form (42 R248). -/
def execCmppxadd32 (m : MemOp) (a b : RegNum) (s : State) : Host.Outcome State Fault Refusal :=
  cmpccxadd 32 .p m a b s

/-- CMPPXADD, 64-bit form (42 R248). -/
def execCmppxadd64 (m : MemOp) (a b : RegNum) (s : State) : Host.Outcome State Fault Refusal :=
  cmpccxadd 64 .p m a b s

/-- CMPNPXADD, 32-bit form (42 R247). -/
def execCmpnpxadd32 (m : MemOp) (a b : RegNum) (s : State) : Host.Outcome State Fault Refusal :=
  cmpccxadd 32 .np m a b s

/-- CMPNPXADD, 64-bit form (42 R247). -/
def execCmpnpxadd64 (m : MemOp) (a b : RegNum) (s : State) : Host.Outcome State Fault Refusal :=
  cmpccxadd 64 .np m a b s

/-- CMPLXADD, 32-bit form (42 R240). -/
def execCmplxadd32 (m : MemOp) (a b : RegNum) (s : State) : Host.Outcome State Fault Refusal :=
  cmpccxadd 32 .l m a b s

/-- CMPLXADD, 64-bit form (42 R240). -/
def execCmplxadd64 (m : MemOp) (a b : RegNum) (s : State) : Host.Outcome State Fault Refusal :=
  cmpccxadd 64 .l m a b s

/-- CMPNLXADD, 32-bit form (42 R244). -/
def execCmpnlxadd32 (m : MemOp) (a b : RegNum) (s : State) : Host.Outcome State Fault Refusal :=
  cmpccxadd 32 .nl m a b s

/-- CMPNLXADD, 64-bit form (42 R244). -/
def execCmpnlxadd64 (m : MemOp) (a b : RegNum) (s : State) : Host.Outcome State Fault Refusal :=
  cmpccxadd 64 .nl m a b s

/-- CMPLEXADD, 32-bit form (42 R239). -/
def execCmplexadd32 (m : MemOp) (a b : RegNum) (s : State) : Host.Outcome State Fault Refusal :=
  cmpccxadd 32 .le m a b s

/-- CMPLEXADD, 64-bit form (42 R239). -/
def execCmplexadd64 (m : MemOp) (a b : RegNum) (s : State) : Host.Outcome State Fault Refusal :=
  cmpccxadd 64 .le m a b s

/-- CMPNLEXADD, 32-bit form (42 R243). -/
def execCmpnlexadd32 (m : MemOp) (a b : RegNum) (s : State) : Host.Outcome State Fault Refusal :=
  cmpccxadd 32 .nle m a b s

/-- CMPNLEXADD, 64-bit form (42 R243). -/
def execCmpnlexadd64 (m : MemOp) (a b : RegNum) (s : State) : Host.Outcome State Fault Refusal :=
  cmpccxadd 64 .nle m a b s

end Sys2Proof.Machine
end

