-- ==== Sys2Proof/Machine/Hash.lean ====
section
/-! DEFINITION. The SHA512, SM3 and SM4 instructions (47_sha512_sm3_sm4). -/

namespace Sys2Proof.Machine

/-! ## Shared -/

/-- A vector from its lowest elements, the first lowest; the other bits are 0. -/
def ofElems {w : Nat} (l : List (BitVec w)) : Vec := pack l.length fun i => l.getD i 0

/-- A VEX vector instruction on registers only. -/
def vexRegOp (s : State) (fs : List Feature) (d : RegNum) (v : Vec) : Host.Outcome State Fault Refusal :=
  settle s do
    vexCheck s fs
    return s.setVreg d v

/-- `ROL32` (47 R386). -/
def rol32 (x : DWord) (n : Nat) : DWord := x.rotateLeft n

/-! ## SHA512 (47 R380) -/

/-- `ROR64`. -/
def ror64 (q : QWord) (n : Nat) : QWord := q.rotateRight n

/-- `s0`. -/
def sha512s0 (q : QWord) : QWord := ror64 q 1 ^^^ ror64 q 8 ^^^ (q >>> 7)

/-- `s1`. -/
def sha512s1 (q : QWord) : QWord := ror64 q 19 ^^^ ror64 q 61 ^^^ (q >>> 6)

/-- `cap_sigma0`. -/
def capSigma0 (q : QWord) : QWord := ror64 q 28 ^^^ ror64 q 34 ^^^ ror64 q 39

/-- `cap_sigma1`. -/
def capSigma1 (q : QWord) : QWord := ror64 q 14 ^^^ ror64 q 18 ^^^ ror64 q 41

/-- `MAJ`. -/
def maj (a b c : QWord) : QWord := (a &&& b) ^^^ (a &&& c) ^^^ (b &&& c)

/-- `CH`. -/
def ch (e f g : QWord) : QWord := (e &&& f) ^^^ (g &&& ~~~e)

/-- VSHA512MSG1's result (47 R382). -/
def sha512Msg1 (d b : Vec) : Vec :=
  ofElems [qword d 0 + sha512s0 (qword d 1), qword d 1 + sha512s0 (qword d 2), qword d 2 + sha512s0 (qword d 3),
    qword d 3 + sha512s0 (qword b 0)]

/-- VSHA512MSG2's result (47 R383). -/
def sha512Msg2 (d b : Vec) : Vec :=
  let w16 := qword d 0 + sha512s1 (qword b 2)
  let w17 := qword d 1 + sha512s1 (qword b 3)
  ofElems [w16, w17, qword d 2 + sha512s1 w16, qword d 3 + sha512s1 w17]

/-- The eight working variables of SHA512. -/
structure Sha512 where
  a : QWord
  b : QWord
  c : QWord
  d : QWord
  e : QWord
  f : QWord
  g : QWord
  h : QWord
  deriving DecidableEq, Repr

/-- One round (47 R384). -/
def sha512Round (x : Sha512) (wk : QWord) : Sha512 :=
  let t := ch x.e x.f x.g + capSigma1 x.e + wk + x.h
  ⟨t + maj x.a x.b x.c + capSigma0 x.a, x.a, x.b, x.c, t + x.d, x.e, x.f, x.g⟩

/-- VSHA512RNDS2's result: two rounds (47 R384). -/
def sha512Rounds (d a b : Vec) : Vec :=
  let x : Sha512 := ⟨qword a 3, qword a 2, qword d 3, qword d 2, qword a 1, qword a 0, qword d 1, qword d 0⟩
  let y := sha512Round (sha512Round x (qword b 0)) (qword b 1)
  ofElems [y.f, y.e, y.b, y.a]

/-- VSHA512RNDS2 (47 R384). -/
def execVsha512rnds2 (d a b : RegNum) (s : State) : Host.Outcome State Fault Refusal :=
  vexRegOp s [.avx, .sha512] d (sha512Rounds (s.vreg d) (s.vreg a) (s.vreg b))

/-- VSHA512MSG1 (47 R382). -/
def execVsha512msg1 (d b : RegNum) (s : State) : Host.Outcome State Fault Refusal :=
  vexRegOp s [.avx, .sha512] d (sha512Msg1 (s.vreg d) (s.vreg b))

/-- VSHA512MSG2 (47 R383). -/
def execVsha512msg2 (d b : RegNum) (s : State) : Host.Outcome State Fault Refusal :=
  vexRegOp s [.avx, .sha512] d (sha512Msg2 (s.vreg d) (s.vreg b))

/-! ## SM3 (47 R386) -/

/-- `P0`. -/
def sm3P0 (x : DWord) : DWord := x ^^^ rol32 x 9 ^^^ rol32 x 17

/-- `P1`. -/
def sm3P1 (x : DWord) : DWord := x ^^^ rol32 x 15 ^^^ rol32 x 23

/-- `FF`. -/
def sm3FF (x y z : DWord) (round : Nat) : DWord :=
  if round < 16 then x ^^^ y ^^^ z else (x &&& y) ||| (x &&& z) ||| (y &&& z)

/-- `GG`. -/
def sm3GG (x y z : DWord) (round : Nat) : DWord :=
  if round < 16 then x ^^^ y ^^^ z else (x &&& y) ||| (~~~x &&& z)

/-- VSM3MSG1's result (47 R388). -/
def sm3Msg1 (d a b : Vec) : Vec :=
  ofElems [sm3P1 (dword d 0 ^^^ dword b 0 ^^^ rol32 (dword a 0) 15),
    sm3P1 (dword d 1 ^^^ dword b 1 ^^^ rol32 (dword a 1) 15),
    sm3P1 (dword d 2 ^^^ dword b 2 ^^^ rol32 (dword a 2) 15),
    sm3P1 (dword d 3 ^^^ dword b 3)]

/-- VSM3MSG2's result (47 R389). -/
def sm3Msg2 (d a b : Vec) : Vec :=
  let w (k : Nat) : DWord := rol32 (dword a k) 7 ^^^ dword b k ^^^ dword d k
  ofElems [w 0, w 1, w 2, w 3 ^^^ rol32 (w 0) 6 ^^^ rol32 (w 0) 15 ^^^ rol32 (w 0) 30]

/-- The eight working variables of SM3, and the round constant. -/
structure Sm3 where
  a : DWord
  b : DWord
  c : DWord
  d : DWord
  e : DWord
  f : DWord
  g : DWord
  h : DWord
  const : DWord
  deriving DecidableEq, Repr

/-- One round of SM3 with message words `W[i]` and `W[i+4]` (47 R390). -/
def sm3Round (round : Nat) (x : Sm3) (w w4 : DWord) : Sm3 :=
  let s1 := rol32 (rol32 x.a 12 + x.e + x.const) 7
  let s2 := s1 ^^^ rol32 x.a 12
  let t1 := sm3FF x.a x.b x.c round + x.d + s2 + (w ^^^ w4)
  let t2 := sm3GG x.e x.f x.g round + x.h + s1 + w
  ⟨t1, x.a, rol32 x.b 9, x.c, sm3P0 t2, x.e, rol32 x.f 19, x.g, rol32 x.const 1⟩

/-- VSM3RNDS2's result: two rounds, from the round number in the immediate (47 R390). -/
def sm3Rounds (d a b : Vec) (imm : Byte) : Vec :=
  let round := (imm &&& 0x3E).toNat
  let const := rol32 (if round < 16 then 0x79CC4519 else 0x7A879D8A) round
  let x : Sm3 := ⟨dword a 3, dword a 2, rol32 (dword d 3) 9, rol32 (dword d 2) 9, dword a 1, dword a 0,
    rol32 (dword d 1) 19, rol32 (dword d 0) 19, const⟩
  let y := sm3Round round (sm3Round round x (dword b 0) (dword b 2)) (dword b 1) (dword b 3)
  ofElems [y.f, y.e, y.b, y.a]

/-- VSM3MSG1 (47 R388). -/
def execVsm3msg1 (d a : RegNum) (b : RM) (s : State) : Host.Outcome State Fault Refusal :=
  vexOp s [.avx, .sm3] d b 16 fun v => sm3Msg1 (s.vreg d) (s.vreg a) v

/-- VSM3MSG2 (47 R389). -/
def execVsm3msg2 (d a : RegNum) (b : RM) (s : State) : Host.Outcome State Fault Refusal :=
  vexOp s [.avx, .sm3] d b 16 fun v => sm3Msg2 (s.vreg d) (s.vreg a) v

/-- VSM3RNDS2 (47 R390). -/
def execVsm3rnds2 (d a : RegNum) (b : RM) (imm : Byte) (s : State) : Host.Outcome State Fault Refusal :=
  vexOp s [.avx, .sm3] d b 16 fun v => sm3Rounds (s.vreg d) (s.vreg a) v imm

/-! ## SM4 (47 R392, R393) -/

def sboxRow0 : List Byte := [0xD6, 0x90, 0xE9, 0xFE, 0xCC, 0xE1, 0x3D, 0xB7, 0x16, 0xB6, 0x14, 0xC2, 0x28, 0xFB, 0x2C, 0x05]
def sboxRow1 : List Byte := [0x2B, 0x67, 0x9A, 0x76, 0x2A, 0xBE, 0x04, 0xC3, 0xAA, 0x44, 0x13, 0x26, 0x49, 0x86, 0x06, 0x99]
def sboxRow2 : List Byte := [0x9C, 0x42, 0x50, 0xF4, 0x91, 0xEF, 0x98, 0x7A, 0x33, 0x54, 0x0B, 0x43, 0xED, 0xCF, 0xAC, 0x62]
def sboxRow3 : List Byte := [0xE4, 0xB3, 0x1C, 0xA9, 0xC9, 0x08, 0xE8, 0x95, 0x80, 0xDF, 0x94, 0xFA, 0x75, 0x8F, 0x3F, 0xA6]
def sboxRow4 : List Byte := [0x47, 0x07, 0xA7, 0xFC, 0xF3, 0x73, 0x17, 0xBA, 0x83, 0x59, 0x3C, 0x19, 0xE6, 0x85, 0x4F, 0xA8]
def sboxRow5 : List Byte := [0x68, 0x6B, 0x81, 0xB2, 0x71, 0x64, 0xDA, 0x8B, 0xF8, 0xEB, 0x0F, 0x4B, 0x70, 0x56, 0x9D, 0x35]
def sboxRow6 : List Byte := [0x1E, 0x24, 0x0E, 0x5E, 0x63, 0x58, 0xD1, 0xA2, 0x25, 0x22, 0x7C, 0x3B, 0x01, 0x21, 0x78, 0x87]
def sboxRow7 : List Byte := [0xD4, 0x00, 0x46, 0x57, 0x9F, 0xD3, 0x27, 0x52, 0x4C, 0x36, 0x02, 0xE7, 0xA0, 0xC4, 0xC8, 0x9E]
def sboxRow8 : List Byte := [0xEA, 0xBF, 0x8A, 0xD2, 0x40, 0xC7, 0x38, 0xB5, 0xA3, 0xF7, 0xF2, 0xCE, 0xF9, 0x61, 0x15, 0xA1]
def sboxRow9 : List Byte := [0xE0, 0xAE, 0x5D, 0xA4, 0x9B, 0x34, 0x1A, 0x55, 0xAD, 0x93, 0x32, 0x30, 0xF5, 0x8C, 0xB1, 0xE3]
def sboxRowA : List Byte := [0x1D, 0xF6, 0xE2, 0x2E, 0x82, 0x66, 0xCA, 0x60, 0xC0, 0x29, 0x23, 0xAB, 0x0D, 0x53, 0x4E, 0x6F]
def sboxRowB : List Byte := [0xD5, 0xDB, 0x37, 0x45, 0xDE, 0xFD, 0x8E, 0x2F, 0x03, 0xFF, 0x6A, 0x72, 0x6D, 0x6C, 0x5B, 0x51]
def sboxRowC : List Byte := [0x8D, 0x1B, 0xAF, 0x92, 0xBB, 0xDD, 0xBC, 0x7F, 0x11, 0xD9, 0x5C, 0x41, 0x1F, 0x10, 0x5A, 0xD8]
def sboxRowD : List Byte := [0x0A, 0xC1, 0x31, 0x88, 0xA5, 0xCD, 0x7B, 0xBD, 0x2D, 0x74, 0xD0, 0x12, 0xB8, 0xE5, 0xB4, 0xB0]
def sboxRowE : List Byte := [0x89, 0x69, 0x97, 0x4A, 0x0C, 0x96, 0x77, 0x7E, 0x65, 0xB9, 0xF1, 0x09, 0xC5, 0x6E, 0xC6, 0x84]
def sboxRowF : List Byte := [0x18, 0xF0, 0x7D, 0xEC, 0x3A, 0xDC, 0x4D, 0x20, 0x79, 0xEE, 0x5F, 0x3E, 0xD7, 0xCB, 0x39, 0x48]

/-- The SM4 S-box (47 R392). -/
def sm4Sbox : List Byte :=
  sboxRow0 ++ sboxRow1 ++ sboxRow2 ++ sboxRow3 ++ sboxRow4 ++ sboxRow5 ++ sboxRow6 ++ sboxRow7 ++
  sboxRow8 ++ sboxRow9 ++ sboxRowA ++ sboxRowB ++ sboxRowC ++ sboxRowD ++ sboxRowE ++ sboxRowF

/-- `lower_t`: the S-box on each byte. -/
def sm4LowerT (x : DWord) : DWord :=
  BitVec.ofNat 32 (packNat (fun k => sm4Sbox.getD (byteAt x k).toNat 0) 4)

/-- `T_KEY`. -/
def sm4TKey (x : DWord) : DWord :=
  let y := sm4LowerT x
  y ^^^ rol32 y 13 ^^^ rol32 y 23

/-- `T_RND`. -/
def sm4TRnd (x : DWord) : DWord :=
  let y := sm4LowerT x
  y ^^^ rol32 y 2 ^^^ rol32 y 10 ^^^ rol32 y 18 ^^^ rol32 y 24

/-- Four rounds on lane `i`: `C[0]` to `C[3]` from `P` in `a` and the round keys in `b` (47 R395, R396). -/
def sm4Lane (t : DWord → DWord) (a b : Vec) (i : Nat) : List DWord :=
  let p (k : Nat) : DWord := dword a (4 * i + k)
  let key (k : Nat) : DWord := dword b (4 * i + k)
  let c0 := p 0 ^^^ t (p 1 ^^^ p 2 ^^^ p 3 ^^^ key 0)
  let c1 := p 1 ^^^ t (p 2 ^^^ p 3 ^^^ c0 ^^^ key 1)
  let c2 := p 2 ^^^ t (p 3 ^^^ c0 ^^^ c1 ^^^ key 2)
  let c3 := p 3 ^^^ t (c0 ^^^ c1 ^^^ c2 ^^^ key 3)
  [c0, c1, c2, c3]

/-- The result over `lanes` independent lanes (47 R394). -/
def sm4Result (t : DWord → DWord) (lanes : Nat) (a b : Vec) : Vec :=
  ofElems ((List.range lanes).flatMap (sm4Lane t a b))

/-- VSM4KEY4, 128-bit (47 R395). -/
def execVsm4key4128 (d a : RegNum) (b : RM) (s : State) : Host.Outcome State Fault Refusal :=
  vexOp s [.avx, .sm4] d b 16 (sm4Result sm4TKey 1 (s.vreg a))

/-- VSM4KEY4, 256-bit (47 R395). -/
def execVsm4key4256 (d a : RegNum) (b : RM) (s : State) : Host.Outcome State Fault Refusal :=
  vexOp s [.avx, .sm4] d b 32 (sm4Result sm4TKey 2 (s.vreg a))

/-- VSM4RNDS4, 128-bit (47 R396). -/
def execVsm4rnds4128 (d a : RegNum) (b : RM) (s : State) : Host.Outcome State Fault Refusal :=
  vexOp s [.avx, .sm4] d b 16 (sm4Result sm4TRnd 1 (s.vreg a))

/-- VSM4RNDS4, 256-bit (47 R396). -/
def execVsm4rnds4256 (d a : RegNum) (b : RM) (s : State) : Host.Outcome State Fault Refusal :=
  vexOp s [.avx, .sm4] d b 32 (sm4Result sm4TRnd 2 (s.vreg a))

end Sys2Proof.Machine
end

