-- ==== Sys2Proof/Machine/Rao.lean ====
section
/-! DEFINITION. The remote atomic operations AADD, AAND, AOR, AXOR (41_rao): each queues an update that the memory
system performs later (R217). -/

namespace Sys2Proof.Machine

/-- Issue `RaoUpdate` for `n` bytes: natural alignment (R216), write access, WB memory (R220), then the request is
queued and the instruction retires (R212 to R217). -/
def raoIssue (op : RaoOp) (n : Nat) (m : MemOp) (src : QWord) (s : State) : Host.Outcome State Fault Refusal :=
  settle s do
    need (enumerated s .raoInt) ud
    let la ← linearOf s (memPointer s m) n
    let pas ← access s (memPointer s m) n .write false n gp0
    need (writeBack s (s.userAccess false) la pas) (.refuse .raoNotWriteBack)
    return { s with rao := s.rao ++ [⟨op, pas.headD 0, n, src⟩] }

/-- AADD, 32-bit form (41_rao R212). -/
def execAadd32 (dst : MemOp) (src : RegNum) (s : State) : Host.Outcome State Fault Refusal :=
  raoIssue .add 4 dst ((s.reg32 src).setWidth 64) s

/-- AADD, 64-bit form (41_rao R212). -/
def execAadd64 (dst : MemOp) (src : RegNum) (s : State) : Host.Outcome State Fault Refusal :=
  raoIssue .add 8 dst (s.reg src) s

/-- AAND, 32-bit form (41_rao R213). -/
def execAand32 (dst : MemOp) (src : RegNum) (s : State) : Host.Outcome State Fault Refusal :=
  raoIssue .bitAnd 4 dst ((s.reg32 src).setWidth 64) s

/-- AAND, 64-bit form (41_rao R213). -/
def execAand64 (dst : MemOp) (src : RegNum) (s : State) : Host.Outcome State Fault Refusal :=
  raoIssue .bitAnd 8 dst (s.reg src) s

/-- AOR, 32-bit form (41_rao R214). -/
def execAor32 (dst : MemOp) (src : RegNum) (s : State) : Host.Outcome State Fault Refusal :=
  raoIssue .bitOr 4 dst ((s.reg32 src).setWidth 64) s

/-- AOR, 64-bit form (41_rao R214). -/
def execAor64 (dst : MemOp) (src : RegNum) (s : State) : Host.Outcome State Fault Refusal :=
  raoIssue .bitOr 8 dst (s.reg src) s

/-- AXOR, 32-bit form (41_rao R215). -/
def execAxor32 (dst : MemOp) (src : RegNum) (s : State) : Host.Outcome State Fault Refusal :=
  raoIssue .bitXor 4 dst ((s.reg32 src).setWidth 64) s

/-- AXOR, 64-bit form (41_rao R215). -/
def execAxor64 (dst : MemOp) (src : RegNum) (s : State) : Host.Outcome State Fault Refusal :=
  raoIssue .bitXor 8 dst (s.reg src) s

end Sys2Proof.Machine
end

