-- ==== Sys2Proof/Machine/System.lean ====
section
/-! DEFINITION. UIRET, MWAIT and the prefetch hints (49_prefetch_uiret_mwait). -/

namespace Sys2Proof.Machine

/-! ## UIRET -/

/-- The bits of RFLAGS that UIRET loads from its frame: CF, PF, AF, ZF, SF, TF, DF, OF, NT, RF, AC, ID (49 R462). -/
def uiretMask : QWord := 0x254DD5

/-- RFLAGS after UIRET (49 R461). -/
def uiretFlags (old image : QWord) : QWord := (old &&& ~~~uiretMask) ||| (image &&& uiretMask)

/-- Pop the quadword `i` of the frame at RSP, through the stack segment (49 R461). -/
def uiretPop (s : State) (i : Nat) : Except Stop QWord := do
  let bs ← memReadChecked s ⟨s.reg rsp + BitVec.ofNat 64 (8 * i), .ss⟩ 8
  return BitVec.ofNat 64 (leNat bs)

/-- How many last-branch records there are. -/
def lbrDepth (s : State) : Nat := (List.range 32).countP fun x => s.platform.msrSet.any fun d => d.addr == 0x1200 + x

/-- Last-branch recording takes a branch of type OTHER_BRANCH at this CPL: IA32_LBR_CTL enables recording (bit 0), the
ring (bit 1 for CPL 0, bit 2 above) and the type, bit 22 (10_state R63; bits 0 to 2 PRESUMED, log 55). -/
def lbrRecords (s : State) : Bool :=
  let ctl := Store.get (0 : QWord) 0x14CE s.msrs
  ctl.getLsbD 0 && ctl.getLsbD (if s.cpl = 0 then 1 else 2) && ctl.getLsbD 22 && decide (0 < lbrDepth s)

/-- The record of a branch of type OTHER_BRANCH: BR_TYPE, bits 59:56, is 1xxxb; the rest is free (60 R557; log 55). -/
def lbrOtherBranch (n : Nat) : QWord := Config.lbrInfo n ||| BitVec.twoPow 64 59

/-- A branch of type OTHER_BRANCH is recorded: the records move up by one, and record 0 is the new one (60 R557). -/
def lbrPush (s : State) : State :=
  if lbrRecords s then
    let moved := (List.range (lbrDepth s - 1)).foldl
      (fun m x => Store.set 0 (0x1201 + x) (Store.get 0 (0x1200 + x) s.msrs) m) s.msrs
    { s.drew with msrs := Store.set 0 0x1200 (lbrOtherBranch s.draws) moved }
  else s

/-- What UIRET writes besides RIP and the branch record (49 R461, R463). -/
def uiretEffect (image newRsp : QWord) (s : State) : State :=
  { s.setReg rsp newRsp with
    rflags := uiretFlags s.rflags image
    uif := if enumerated s .uiretUif then image.getLsbD 1 else true
    monitor := .idle }

/-- UIRET (49 R460 to R465); no shadow stack (92 D6). -/
def execUiret (s : State) : Host.Outcome State Fault Refusal :=
  let r : Except Stop (QWord × QWord × QWord) := do
    need (s.in64 && s.cr4.getLsbD 25 && enumerated s .uintr) ud
    let newRip ← uiretPop s 0
    let image ← uiretPop s 1
    let newRsp ← uiretPop s 2
    need (s.canonical newRip) gp0
    return (newRip, image, newRsp)
  match r with
  | .ok (newRip, image, newRsp) => .next ((uiretEffect image newRsp (lbrPush s)).retireTo newRip)
  | .error x => raise x s

/-! ## MWAIT -/

/-- Monitorless MWAIT is supported: CPUID.05H:ECX[3] or CPUID.(7,1):EDX[23] or both say so, as the platform has it
(40_cpuid R196; 49 R468, R473, R476; 70_reset R583; log 32). -/
def monitorlessSupported (s : State) : Bool :=
  let leaf5 := enumerated s .monitorlessMwait
  let leaf7 := enumerated s .mwait
  match s.platform.monitorlessGate with
  | .leaf5 => leaf5
  | .leaf7 => leaf7
  | .either => leaf5 || leaf7
  | .both => leaf5 && leaf7

/-- ECX asks for nothing reserved or unsupported, and ECX[2] = 0 only where MONITOR is enumerated (49 R476). -/
def mwaitExtensionsLegal (s : State) (ecx : DWord) : Bool :=
  (ecx.toNat / 8 == 0) && !ecx.getLsbD 1 && (!ecx.getLsbD 2 || monitorlessSupported s) &&
    (!ecx.getLsbD 0 || enumerated s .intrBreak) && (ecx.getLsbD 2 || enumerated s .monitor)

/-- The checks of MWAIT in the order of 49 R476. The VM exit comes after the #UD checks (log 32). -/
def mwaitCheck (s : State) (ecx : DWord) : Except Stop Unit := do
  need (monitorEnabled s) ud
  need (enumerated s .monitor || enumerated s .mwait) ud
  need (decide (s.cpl = 0)) ud
  need (!(decide (s.vmx = .nonRoot) && s.vmcs.mwaitExiting))
    (.vmExit 36 (match s.monitor with | .armed _ _ => 1 | _ => 0) (exitLength s) 0)
  need (mwaitExtensionsLegal s ecx) gp0

/-- The hint asks for a C-state numerically higher than C1: EAX[7:4] is neither 0 nor 15 (49 R471, R472; log 32). -/
def mwaitDeep (eax : DWord) : Bool :=
  let c := eax.toNat / 16 % 16
  c != 0 && c != 15

/-- MWAIT with ECX[2] = 1: the monitor is ignored; whether it stays armed is not stated (49 R473, 93 U18). -/
def mwaitMonitorless (s : State) (ecx eax : DWord) : State :=
  let t := { s with activity := .mwait true (ecx.getLsbD 0) (mwaitDeep eax) }
  match s.monitor with
  | .armed _ _ =>
    { t with
      monitor := if nextChoice false s.env.monitorLost then .idle else s.monitor
      env := { s.env with monitorLost := s.env.monitorLost.tail } }
  | _ => t

/-- MWAIT with ECX[2] = 0: waits while the monitor is armed, else completes at once with the monitor set as triggered
(49 R472). -/
def mwaitMonitored (s : State) (ecx eax : DWord) : State :=
  match s.monitor with
  | .armed _ _ => { s with activity := .mwait false (ecx.getLsbD 0) (mwaitDeep eax) }
  | _ => { s with monitor := .triggered }

/-- MWAIT (49 R469 to R476): a wait, ended by the boundary's events. -/
def execMwait (s : State) : Host.Outcome State Fault Refusal :=
  settle s do
    mwaitCheck s (s.reg32 rcx)
    return if (s.reg32 rcx).getLsbD 2 then mwaitMonitorless s (s.reg32 rcx) (s.reg32 rax)
      else mwaitMonitored s (s.reg32 rcx) (s.reg32 rax)

/-! ## Prefetch hints -/

/-- A hint: it only advances RIP, and looks at no address (49 R450, R457, R458). -/
def hint (_ : MemOp) (s : State) : Host.Outcome State Fault Refusal := .next s.retire

/-- PREFETCHNTA (49 R454). -/
def execPrefetchnta (m : MemOp) (s : State) : Host.Outcome State Fault Refusal := hint m s

/-- PREFETCHT0 (49 R451). -/
def execPrefetcht0 (m : MemOp) (s : State) : Host.Outcome State Fault Refusal := hint m s

/-- PREFETCHT1 (49 R452). -/
def execPrefetcht1 (m : MemOp) (s : State) : Host.Outcome State Fault Refusal := hint m s

/-- PREFETCHT2 (49 R453). -/
def execPrefetcht2 (m : MemOp) (s : State) : Host.Outcome State Fault Refusal := hint m s

/-- PREFETCHIT1 (49 R456). -/
def execPrefetchit1 (m : MemOp) (s : State) : Host.Outcome State Fault Refusal := hint m s

/-- PREFETCHIT0 (49 R455). -/
def execPrefetchit0 (m : MemOp) (s : State) : Host.Outcome State Fault Refusal := hint m s

end Sys2Proof.Machine
end

