-- ==== Sys2Proof/Machine/Vnni.lean ====
section
/-! DEFINITION. The dot products of AVX-VNNI-INT8 and AVX-VNNI-INT16 and the multiply-accumulate of AVX-IFMA
(46_avx_vnni_ifma). -/

namespace Sys2Proof.Machine

/-! ## Arithmetic -/

/-- How a source element is read. -/
inductive Sign where
  | signed | unsigned
  deriving DecidableEq, Repr

/-- An element as an integer (46 R353, R360). -/
def Sign.ext {w : Nat} (g : Sign) (v : BitVec w) : Int :=
  match g with
  | .signed => v.toInt
  | .unsigned => v.toNat

/-- `sat_u32` (46 R351). -/
def satU32 (x : Int) : DWord := if x > 2 ^ 32 - 1 then 0xFFFFFFFF else if x < 0 then 0 else BitVec.ofInt 32 x

/-- `sat_s32` (46 R351). -/
def satS32 (x : Int) : DWord :=
  if x > 2 ^ 31 - 1 then 0x7FFFFFFF else if x < -2 ^ 31 then 0x80000000 else BitVec.ofInt 32 x

/-- Accumulate the exact sum of products `p` into a dword: wrapping, or saturating once, unsigned in the UU forms
(46 R353, R360). -/
def dotAccumulate (s1 s2 : Sign) (sat : Bool) (old : DWord) (p : Int) : DWord :=
  if sat then
    if s1 = .unsigned ∧ s2 = .unsigned then satU32 (old.toNat + p) else satS32 (old.toInt + p)
  else old + BitVec.ofInt 32 p

/-- The sum of the products of `n` elements of `w` bits from element `j` on. -/
def dotSum (w : Nat) (s1 s2 : Sign) (a b : Vec) (j n : Nat) : Int :=
  ((List.range n).map fun k => s1.ext (elem w a (j + k)) * s2.ext (elem w b (j + k))).sum

/-- One dword of `VPDPB` (`w` = 8) or `VPDPW` (`w` = 16) (46 R353, R360). -/
def dotDword (w : Nat) (s1 s2 : Sign) (sat : Bool) (d a b : Vec) (i : Nat) : DWord :=
  dotAccumulate s1 s2 sat (dword d i) (dotSum w s1 s2 a b (32 / w * i) (32 / w))

/-- A 52-bit source (46 R367). -/
def low52 (v : QWord) : Nat := v.toNat % 2 ^ 52

/-- One qword of VPMADD52HUQ (`high`) or VPMADD52LUQ (46 R368, R369). -/
def madd52Qword (high : Bool) (d a b : Vec) (i : Nat) : QWord :=
  let product := low52 (qword a i) * low52 (qword b i)
  qword d i + BitVec.ofNat 64 (if high then product / 2 ^ 52 else product % 2 ^ 52)

/-! ## Shapes -/

/-- A dot product over `k` dwords (46 R350). -/
def dotProduct (s : State) (w k : Nat) (s1 s2 : Sign) (sat : Bool) (d a : RegNum) (b : RM) :
    Host.Outcome State Fault Refusal :=
  vexOp s [if w = 8 then .vnniInt8 else .vnniInt16] d b (4 * k) fun v =>
    pack k (dotDword w s1 s2 sat (s.vreg d) (s.vreg a) v)

/-- A 52-bit multiply-accumulate over `k` qwords (46 R367). -/
def madd52 (s : State) (high : Bool) (k : Nat) (d a : RegNum) (b : RM) : Host.Outcome State Fault Refusal :=
  vexOp s [.avxIfma] d b (8 * k) fun v => pack k (madd52Qword high (s.vreg d) (s.vreg a) v)

/-! ## Instructions -/

/-- VPDPBSSD, 128-bit (46 R354). -/
def execVpdpbssd128 (d a : RegNum) (b : RM) (s : State) : Host.Outcome State Fault Refusal :=
  dotProduct s 8 4 .signed .signed false d a b

/-- VPDPBSSD, 256-bit (46 R354). -/
def execVpdpbssd256 (d a : RegNum) (b : RM) (s : State) : Host.Outcome State Fault Refusal :=
  dotProduct s 8 8 .signed .signed false d a b

/-- VPDPBSSDS, 128-bit (46 R355). -/
def execVpdpbssds128 (d a : RegNum) (b : RM) (s : State) : Host.Outcome State Fault Refusal :=
  dotProduct s 8 4 .signed .signed true d a b

/-- VPDPBSSDS, 256-bit (46 R355). -/
def execVpdpbssds256 (d a : RegNum) (b : RM) (s : State) : Host.Outcome State Fault Refusal :=
  dotProduct s 8 8 .signed .signed true d a b

/-- VPDPBSUD, 128-bit (46 R356). -/
def execVpdpbsud128 (d a : RegNum) (b : RM) (s : State) : Host.Outcome State Fault Refusal :=
  dotProduct s 8 4 .signed .unsigned false d a b

/-- VPDPBSUD, 256-bit (46 R356). -/
def execVpdpbsud256 (d a : RegNum) (b : RM) (s : State) : Host.Outcome State Fault Refusal :=
  dotProduct s 8 8 .signed .unsigned false d a b

/-- VPDPBSUDS, 128-bit (46 R357). -/
def execVpdpbsuds128 (d a : RegNum) (b : RM) (s : State) : Host.Outcome State Fault Refusal :=
  dotProduct s 8 4 .signed .unsigned true d a b

/-- VPDPBSUDS, 256-bit (46 R357). -/
def execVpdpbsuds256 (d a : RegNum) (b : RM) (s : State) : Host.Outcome State Fault Refusal :=
  dotProduct s 8 8 .signed .unsigned true d a b

/-- VPDPBUUD, 128-bit (46 R358). -/
def execVpdpbuud128 (d a : RegNum) (b : RM) (s : State) : Host.Outcome State Fault Refusal :=
  dotProduct s 8 4 .unsigned .unsigned false d a b

/-- VPDPBUUD, 256-bit (46 R358). -/
def execVpdpbuud256 (d a : RegNum) (b : RM) (s : State) : Host.Outcome State Fault Refusal :=
  dotProduct s 8 8 .unsigned .unsigned false d a b

/-- VPDPBUUDS, 128-bit (46 R359). -/
def execVpdpbuuds128 (d a : RegNum) (b : RM) (s : State) : Host.Outcome State Fault Refusal :=
  dotProduct s 8 4 .unsigned .unsigned true d a b

/-- VPDPBUUDS, 256-bit (46 R359). -/
def execVpdpbuuds256 (d a : RegNum) (b : RM) (s : State) : Host.Outcome State Fault Refusal :=
  dotProduct s 8 8 .unsigned .unsigned true d a b

/-- VPDPWSUD, 128-bit (46 R361). -/
def execVpdpwsud128 (d a : RegNum) (b : RM) (s : State) : Host.Outcome State Fault Refusal :=
  dotProduct s 16 4 .signed .unsigned false d a b

/-- VPDPWSUD, 256-bit (46 R361). -/
def execVpdpwsud256 (d a : RegNum) (b : RM) (s : State) : Host.Outcome State Fault Refusal :=
  dotProduct s 16 8 .signed .unsigned false d a b

/-- VPDPWSUDS, 128-bit (46 R362). -/
def execVpdpwsuds128 (d a : RegNum) (b : RM) (s : State) : Host.Outcome State Fault Refusal :=
  dotProduct s 16 4 .signed .unsigned true d a b

/-- VPDPWSUDS, 256-bit (46 R362). -/
def execVpdpwsuds256 (d a : RegNum) (b : RM) (s : State) : Host.Outcome State Fault Refusal :=
  dotProduct s 16 8 .signed .unsigned true d a b

/-- VPDPWUSD, 128-bit (46 R363). -/
def execVpdpwusd128 (d a : RegNum) (b : RM) (s : State) : Host.Outcome State Fault Refusal :=
  dotProduct s 16 4 .unsigned .signed false d a b

/-- VPDPWUSD, 256-bit (46 R363). -/
def execVpdpwusd256 (d a : RegNum) (b : RM) (s : State) : Host.Outcome State Fault Refusal :=
  dotProduct s 16 8 .unsigned .signed false d a b

/-- VPDPWUSDS, 128-bit (46 R364). -/
def execVpdpwusds128 (d a : RegNum) (b : RM) (s : State) : Host.Outcome State Fault Refusal :=
  dotProduct s 16 4 .unsigned .signed true d a b

/-- VPDPWUSDS, 256-bit (46 R364). -/
def execVpdpwusds256 (d a : RegNum) (b : RM) (s : State) : Host.Outcome State Fault Refusal :=
  dotProduct s 16 8 .unsigned .signed true d a b

/-- VPDPWUUD, 128-bit (46 R365). -/
def execVpdpwuud128 (d a : RegNum) (b : RM) (s : State) : Host.Outcome State Fault Refusal :=
  dotProduct s 16 4 .unsigned .unsigned false d a b

/-- VPDPWUUD, 256-bit (46 R365). -/
def execVpdpwuud256 (d a : RegNum) (b : RM) (s : State) : Host.Outcome State Fault Refusal :=
  dotProduct s 16 8 .unsigned .unsigned false d a b

/-- VPDPWUUDS, 128-bit (46 R366). -/
def execVpdpwuuds128 (d a : RegNum) (b : RM) (s : State) : Host.Outcome State Fault Refusal :=
  dotProduct s 16 4 .unsigned .unsigned true d a b

/-- VPDPWUUDS, 256-bit (46 R366). -/
def execVpdpwuuds256 (d a : RegNum) (b : RM) (s : State) : Host.Outcome State Fault Refusal :=
  dotProduct s 16 8 .unsigned .unsigned true d a b

/-- VPMADD52HUQ, 128-bit (46 R368). -/
def execVpmadd52huq128 (d a : RegNum) (b : RM) (s : State) : Host.Outcome State Fault Refusal :=
  madd52 s true 2 d a b

/-- VPMADD52HUQ, 256-bit (46 R368). -/
def execVpmadd52huq256 (d a : RegNum) (b : RM) (s : State) : Host.Outcome State Fault Refusal :=
  madd52 s true 4 d a b

/-- VPMADD52LUQ, 128-bit (46 R369). -/
def execVpmadd52luq128 (d a : RegNum) (b : RM) (s : State) : Host.Outcome State Fault Refusal :=
  madd52 s false 2 d a b

/-- VPMADD52LUQ, 256-bit (46 R369). -/
def execVpmadd52luq256 (d a : RegNum) (b : RM) (s : State) : Host.Outcome State Fault Refusal :=
  madd52 s false 4 d a b

end Sys2Proof.Machine
end

