-- ==== Sys2Proof/Machine/Dispatch.lean ====
section
/-! DEFINITION. One arm per constructor of `Instr`: the meaning of each instruction of the opcode table. -/

namespace Sys2Proof.Machine

open Sys2Proof

def exec (i : Instr) (s : State) : Host.Outcome State Fault Refusal :=
  match i with
  | .cpuid => Sys2Proof.Machine.execCpuid s
  | .aadd32 dst src => Sys2Proof.Machine.execAadd32 dst src s
  | .aadd64 dst src => Sys2Proof.Machine.execAadd64 dst src s
  | .aand32 dst src => Sys2Proof.Machine.execAand32 dst src s
  | .aand64 dst src => Sys2Proof.Machine.execAand64 dst src s
  | .aor32 dst src => Sys2Proof.Machine.execAor32 dst src s
  | .aor64 dst src => Sys2Proof.Machine.execAor64 dst src s
  | .axor32 dst src => Sys2Proof.Machine.execAxor32 dst src s
  | .axor64 dst src => Sys2Proof.Machine.execAxor64 dst src s
  | .cmpoxadd32 m a b => Sys2Proof.Machine.execCmpoxadd32 m a b s
  | .cmpoxadd64 m a b => Sys2Proof.Machine.execCmpoxadd64 m a b s
  | .cmpnoxadd32 m a b => Sys2Proof.Machine.execCmpnoxadd32 m a b s
  | .cmpnoxadd64 m a b => Sys2Proof.Machine.execCmpnoxadd64 m a b s
  | .cmpbxadd32 m a b => Sys2Proof.Machine.execCmpbxadd32 m a b s
  | .cmpbxadd64 m a b => Sys2Proof.Machine.execCmpbxadd64 m a b s
  | .cmpnbxadd32 m a b => Sys2Proof.Machine.execCmpnbxadd32 m a b s
  | .cmpnbxadd64 m a b => Sys2Proof.Machine.execCmpnbxadd64 m a b s
  | .cmpzxadd32 m a b => Sys2Proof.Machine.execCmpzxadd32 m a b s
  | .cmpzxadd64 m a b => Sys2Proof.Machine.execCmpzxadd64 m a b s
  | .cmpnzxadd32 m a b => Sys2Proof.Machine.execCmpnzxadd32 m a b s
  | .cmpnzxadd64 m a b => Sys2Proof.Machine.execCmpnzxadd64 m a b s
  | .cmpbexadd32 m a b => Sys2Proof.Machine.execCmpbexadd32 m a b s
  | .cmpbexadd64 m a b => Sys2Proof.Machine.execCmpbexadd64 m a b s
  | .cmpnbexadd32 m a b => Sys2Proof.Machine.execCmpnbexadd32 m a b s
  | .cmpnbexadd64 m a b => Sys2Proof.Machine.execCmpnbexadd64 m a b s
  | .cmpsxadd32 m a b => Sys2Proof.Machine.execCmpsxadd32 m a b s
  | .cmpsxadd64 m a b => Sys2Proof.Machine.execCmpsxadd64 m a b s
  | .cmpnsxadd32 m a b => Sys2Proof.Machine.execCmpnsxadd32 m a b s
  | .cmpnsxadd64 m a b => Sys2Proof.Machine.execCmpnsxadd64 m a b s
  | .cmppxadd32 m a b => Sys2Proof.Machine.execCmppxadd32 m a b s
  | .cmppxadd64 m a b => Sys2Proof.Machine.execCmppxadd64 m a b s
  | .cmpnpxadd32 m a b => Sys2Proof.Machine.execCmpnpxadd32 m a b s
  | .cmpnpxadd64 m a b => Sys2Proof.Machine.execCmpnpxadd64 m a b s
  | .cmplxadd32 m a b => Sys2Proof.Machine.execCmplxadd32 m a b s
  | .cmplxadd64 m a b => Sys2Proof.Machine.execCmplxadd64 m a b s
  | .cmpnlxadd32 m a b => Sys2Proof.Machine.execCmpnlxadd32 m a b s
  | .cmpnlxadd64 m a b => Sys2Proof.Machine.execCmpnlxadd64 m a b s
  | .cmplexadd32 m a b => Sys2Proof.Machine.execCmplexadd32 m a b s
  | .cmplexadd64 m a b => Sys2Proof.Machine.execCmplexadd64 m a b s
  | .cmpnlexadd32 m a b => Sys2Proof.Machine.execCmpnlexadd32 m a b s
  | .cmpnlexadd64 m a b => Sys2Proof.Machine.execCmpnlexadd64 m a b s
  | .pconfig => Sys2Proof.Machine.execPconfig s
  | .wrmsrns => Sys2Proof.Machine.execWrmsrns s
  | .rdmsrlist => Sys2Proof.Machine.execRdmsrlist s
  | .wrmsrlist => Sys2Proof.Machine.execWrmsrlist s
  | .pbndkb => Sys2Proof.Machine.execPbndkb s
  | .mwait => Sys2Proof.Machine.execMwait s
  | .uiret => Sys2Proof.Machine.execUiret s
  | .urdmsrReg dst addr => Sys2Proof.Machine.execUrdmsrReg dst addr s
  | .urdmsrImm dst imm => Sys2Proof.Machine.execUrdmsrImm dst imm s
  | .uwrmsrReg addr src => Sys2Proof.Machine.execUwrmsrReg addr src s
  | .uwrmsrImm imm src => Sys2Proof.Machine.execUwrmsrImm imm src s
  | .vpdpbssd128 d a b => Sys2Proof.Machine.execVpdpbssd128 d a b s
  | .vpdpbssd256 d a b => Sys2Proof.Machine.execVpdpbssd256 d a b s
  | .vpdpbssds128 d a b => Sys2Proof.Machine.execVpdpbssds128 d a b s
  | .vpdpbssds256 d a b => Sys2Proof.Machine.execVpdpbssds256 d a b s
  | .vpdpbsud128 d a b => Sys2Proof.Machine.execVpdpbsud128 d a b s
  | .vpdpbsud256 d a b => Sys2Proof.Machine.execVpdpbsud256 d a b s
  | .vpdpbsuds128 d a b => Sys2Proof.Machine.execVpdpbsuds128 d a b s
  | .vpdpbsuds256 d a b => Sys2Proof.Machine.execVpdpbsuds256 d a b s
  | .vpdpbuud128 d a b => Sys2Proof.Machine.execVpdpbuud128 d a b s
  | .vpdpbuud256 d a b => Sys2Proof.Machine.execVpdpbuud256 d a b s
  | .vpdpbuuds128 d a b => Sys2Proof.Machine.execVpdpbuuds128 d a b s
  | .vpdpbuuds256 d a b => Sys2Proof.Machine.execVpdpbuuds256 d a b s
  | .vpdpwsud128 d a b => Sys2Proof.Machine.execVpdpwsud128 d a b s
  | .vpdpwsud256 d a b => Sys2Proof.Machine.execVpdpwsud256 d a b s
  | .vpdpwsuds128 d a b => Sys2Proof.Machine.execVpdpwsuds128 d a b s
  | .vpdpwsuds256 d a b => Sys2Proof.Machine.execVpdpwsuds256 d a b s
  | .vpdpwusd128 d a b => Sys2Proof.Machine.execVpdpwusd128 d a b s
  | .vpdpwusd256 d a b => Sys2Proof.Machine.execVpdpwusd256 d a b s
  | .vpdpwusds128 d a b => Sys2Proof.Machine.execVpdpwusds128 d a b s
  | .vpdpwusds256 d a b => Sys2Proof.Machine.execVpdpwusds256 d a b s
  | .vpdpwuud128 d a b => Sys2Proof.Machine.execVpdpwuud128 d a b s
  | .vpdpwuud256 d a b => Sys2Proof.Machine.execVpdpwuud256 d a b s
  | .vpdpwuuds128 d a b => Sys2Proof.Machine.execVpdpwuuds128 d a b s
  | .vpdpwuuds256 d a b => Sys2Proof.Machine.execVpdpwuuds256 d a b s
  | .vpmadd52huq128 d a b => Sys2Proof.Machine.execVpmadd52huq128 d a b s
  | .vpmadd52huq256 d a b => Sys2Proof.Machine.execVpmadd52huq256 d a b s
  | .vpmadd52luq128 d a b => Sys2Proof.Machine.execVpmadd52luq128 d a b s
  | .vpmadd52luq256 d a b => Sys2Proof.Machine.execVpmadd52luq256 d a b s
  | .tdpfp16ps d a b => Sys2Proof.Machine.execTdpfp16ps d a b s
  | .tcmmimfp16ps d a b => Sys2Proof.Machine.execTcmmimfp16ps d a b s
  | .tcmmrlfp16ps d a b => Sys2Proof.Machine.execTcmmrlfp16ps d a b s
  | .vcvtneps2bf16128 d b => Sys2Proof.Machine.execVcvtneps2bf16128 d b s
  | .vcvtneps2bf16256 d b => Sys2Proof.Machine.execVcvtneps2bf16256 d b s
  | .vcvtneebf162ps128 d m => Sys2Proof.Machine.execVcvtneebf162ps128 d m s
  | .vcvtneebf162ps256 d m => Sys2Proof.Machine.execVcvtneebf162ps256 d m s
  | .vcvtneeph2ps128 d m => Sys2Proof.Machine.execVcvtneeph2ps128 d m s
  | .vcvtneeph2ps256 d m => Sys2Proof.Machine.execVcvtneeph2ps256 d m s
  | .vcvtneobf162ps128 d m => Sys2Proof.Machine.execVcvtneobf162ps128 d m s
  | .vcvtneobf162ps256 d m => Sys2Proof.Machine.execVcvtneobf162ps256 d m s
  | .vcvtneoph2ps128 d m => Sys2Proof.Machine.execVcvtneoph2ps128 d m s
  | .vcvtneoph2ps256 d m => Sys2Proof.Machine.execVcvtneoph2ps256 d m s
  | .vbcstnebf162ps128 d m => Sys2Proof.Machine.execVbcstnebf162ps128 d m s
  | .vbcstnebf162ps256 d m => Sys2Proof.Machine.execVbcstnebf162ps256 d m s
  | .vbcstnesh2ps128 d m => Sys2Proof.Machine.execVbcstnesh2ps128 d m s
  | .vbcstnesh2ps256 d m => Sys2Proof.Machine.execVbcstnesh2ps256 d m s
  | .vsha512rnds2 d a b => Sys2Proof.Machine.execVsha512rnds2 d a b s
  | .vsha512msg1 d b => Sys2Proof.Machine.execVsha512msg1 d b s
  | .vsha512msg2 d b => Sys2Proof.Machine.execVsha512msg2 d b s
  | .vsm3msg1 d a b => Sys2Proof.Machine.execVsm3msg1 d a b s
  | .vsm3msg2 d a b => Sys2Proof.Machine.execVsm3msg2 d a b s
  | .vsm3rnds2 d a b imm => Sys2Proof.Machine.execVsm3rnds2 d a b imm s
  | .vsm4key4128 d a b => Sys2Proof.Machine.execVsm4key4128 d a b s
  | .vsm4key4256 d a b => Sys2Proof.Machine.execVsm4key4256 d a b s
  | .vsm4rnds4128 d a b => Sys2Proof.Machine.execVsm4rnds4128 d a b s
  | .vsm4rnds4256 d a b => Sys2Proof.Machine.execVsm4rnds4256 d a b s
  | .prefetchnta m => Sys2Proof.Machine.execPrefetchnta m s
  | .prefetcht0 m => Sys2Proof.Machine.execPrefetcht0 m s
  | .prefetcht1 m => Sys2Proof.Machine.execPrefetcht1 m s
  | .prefetcht2 m => Sys2Proof.Machine.execPrefetcht2 m s
  | .prefetchit1 m => Sys2Proof.Machine.execPrefetchit1 m s
  | .prefetchit0 m => Sys2Proof.Machine.execPrefetchit0 m s

end Sys2Proof.Machine
end

