-- ==== Sys2Proof/WellFormed.lean ====
section
/-! DEFINITION. Which instructions are well-formed: the operands some encoding of 64-bit mode can name
(30_encoding R137, R144). -/

namespace Sys2Proof

/-- An index of RSP cannot be encoded (SIB.index 100 without X means none), and without an index no scale is
held (30_encoding R137). -/
def EffAddr.wf : EffAddr → Bool
  | .ripRel _ => true
  | .sib _ none scale _ => scale == 0
  | .sib _ (some i) _ _ => i != 4

/-- A memory operand is well-formed when its address form is. -/
def MemOp.wf (m : MemOp) : Bool := m.ea.wf

/-- A register-or-memory operand is well-formed when its memory form is. -/
def RM.wf : RM → Bool
  | .reg _ => true
  | .mem m => m.wf

/-- Only tiles 0 to 7 exist (30_encoding R144, 48_amx R420). -/
def tileWf (t : RegNum) : Bool := decide (t.toNat < 8)

/-- An instruction is well-formed when each operand is. -/
def Instr.wf : Instr → Bool
  | .cpuid => true
  | .aadd32 dst _ => dst.wf
  | .aadd64 dst _ => dst.wf
  | .aand32 dst _ => dst.wf
  | .aand64 dst _ => dst.wf
  | .aor32 dst _ => dst.wf
  | .aor64 dst _ => dst.wf
  | .axor32 dst _ => dst.wf
  | .axor64 dst _ => dst.wf
  | .cmpoxadd32 m _ _ => m.wf
  | .cmpoxadd64 m _ _ => m.wf
  | .cmpnoxadd32 m _ _ => m.wf
  | .cmpnoxadd64 m _ _ => m.wf
  | .cmpbxadd32 m _ _ => m.wf
  | .cmpbxadd64 m _ _ => m.wf
  | .cmpnbxadd32 m _ _ => m.wf
  | .cmpnbxadd64 m _ _ => m.wf
  | .cmpzxadd32 m _ _ => m.wf
  | .cmpzxadd64 m _ _ => m.wf
  | .cmpnzxadd32 m _ _ => m.wf
  | .cmpnzxadd64 m _ _ => m.wf
  | .cmpbexadd32 m _ _ => m.wf
  | .cmpbexadd64 m _ _ => m.wf
  | .cmpnbexadd32 m _ _ => m.wf
  | .cmpnbexadd64 m _ _ => m.wf
  | .cmpsxadd32 m _ _ => m.wf
  | .cmpsxadd64 m _ _ => m.wf
  | .cmpnsxadd32 m _ _ => m.wf
  | .cmpnsxadd64 m _ _ => m.wf
  | .cmppxadd32 m _ _ => m.wf
  | .cmppxadd64 m _ _ => m.wf
  | .cmpnpxadd32 m _ _ => m.wf
  | .cmpnpxadd64 m _ _ => m.wf
  | .cmplxadd32 m _ _ => m.wf
  | .cmplxadd64 m _ _ => m.wf
  | .cmpnlxadd32 m _ _ => m.wf
  | .cmpnlxadd64 m _ _ => m.wf
  | .cmplexadd32 m _ _ => m.wf
  | .cmplexadd64 m _ _ => m.wf
  | .cmpnlexadd32 m _ _ => m.wf
  | .cmpnlexadd64 m _ _ => m.wf
  | .pconfig => true
  | .wrmsrns => true
  | .rdmsrlist => true
  | .wrmsrlist => true
  | .pbndkb => true
  | .mwait => true
  | .uiret => true
  | .urdmsrReg _ _ => true
  | .urdmsrImm _ _ => true
  | .uwrmsrReg _ _ => true
  | .uwrmsrImm _ _ => true
  | .vpdpbssd128 _ _ b => b.wf
  | .vpdpbssd256 _ _ b => b.wf
  | .vpdpbssds128 _ _ b => b.wf
  | .vpdpbssds256 _ _ b => b.wf
  | .vpdpbsud128 _ _ b => b.wf
  | .vpdpbsud256 _ _ b => b.wf
  | .vpdpbsuds128 _ _ b => b.wf
  | .vpdpbsuds256 _ _ b => b.wf
  | .vpdpbuud128 _ _ b => b.wf
  | .vpdpbuud256 _ _ b => b.wf
  | .vpdpbuuds128 _ _ b => b.wf
  | .vpdpbuuds256 _ _ b => b.wf
  | .vpdpwsud128 _ _ b => b.wf
  | .vpdpwsud256 _ _ b => b.wf
  | .vpdpwsuds128 _ _ b => b.wf
  | .vpdpwsuds256 _ _ b => b.wf
  | .vpdpwusd128 _ _ b => b.wf
  | .vpdpwusd256 _ _ b => b.wf
  | .vpdpwusds128 _ _ b => b.wf
  | .vpdpwusds256 _ _ b => b.wf
  | .vpdpwuud128 _ _ b => b.wf
  | .vpdpwuud256 _ _ b => b.wf
  | .vpdpwuuds128 _ _ b => b.wf
  | .vpdpwuuds256 _ _ b => b.wf
  | .vpmadd52huq128 _ _ b => b.wf
  | .vpmadd52huq256 _ _ b => b.wf
  | .vpmadd52luq128 _ _ b => b.wf
  | .vpmadd52luq256 _ _ b => b.wf
  | .tdpfp16ps d a b => tileWf d && tileWf a && tileWf b
  | .tcmmimfp16ps d a b => tileWf d && tileWf a && tileWf b
  | .tcmmrlfp16ps d a b => tileWf d && tileWf a && tileWf b
  | .vcvtneps2bf16128 _ b => b.wf
  | .vcvtneps2bf16256 _ b => b.wf
  | .vcvtneebf162ps128 _ m => m.wf
  | .vcvtneebf162ps256 _ m => m.wf
  | .vcvtneeph2ps128 _ m => m.wf
  | .vcvtneeph2ps256 _ m => m.wf
  | .vcvtneobf162ps128 _ m => m.wf
  | .vcvtneobf162ps256 _ m => m.wf
  | .vcvtneoph2ps128 _ m => m.wf
  | .vcvtneoph2ps256 _ m => m.wf
  | .vbcstnebf162ps128 _ m => m.wf
  | .vbcstnebf162ps256 _ m => m.wf
  | .vbcstnesh2ps128 _ m => m.wf
  | .vbcstnesh2ps256 _ m => m.wf
  | .vsha512rnds2 _ _ _ => true
  | .vsha512msg1 _ _ => true
  | .vsha512msg2 _ _ => true
  | .vsm3msg1 _ _ b => b.wf
  | .vsm3msg2 _ _ b => b.wf
  | .vsm3rnds2 _ _ b _ => b.wf
  | .vsm4key4128 _ _ b => b.wf
  | .vsm4key4256 _ _ b => b.wf
  | .vsm4rnds4128 _ _ b => b.wf
  | .vsm4rnds4256 _ _ b => b.wf
  | .prefetchnta m => m.wf
  | .prefetcht0 m => m.wf
  | .prefetcht1 m => m.wf
  | .prefetcht2 m => m.wf
  | .prefetchit1 m => m.wf
  | .prefetchit0 m => m.wf

end Sys2Proof
end

