-- ==== Sys2Proof/Decode.lean ====
section
/-! DEFINITION. From instruction bytes to an instruction, and back (30_encoding). `decode` is total on any bytes;
`encode` writes one encoding of each instruction in 64-bit mode. -/

namespace Sys2Proof

/-- Why bytes get no instruction although the spec does not say #UD. Each is safe: the model stops where the
processor goes on. -/
inductive DecodeRefusal where
  /-- An encoding outside the opcode table (30_encoding R144, R159). -/
  | outsideSpec
  /-- 62H in 64-bit mode starts an EVEX encoding (30_encoding R143). -/
  | evex
  /-- 16-bit addressing (30_encoding R131). -/
  | addr16
  /-- More than one of 66, F2, F3 (30_encoding R133). -/
  | severalMandatory
  /-- A REX byte that is not immediately before the opcode (30_encoding R134; log 28). -/
  | rexMisplaced
  deriving DecidableEq, Repr

/-- What the decoder answers. -/
inductive Decoded where
  /-- An instruction and its length in bytes. -/
  | instr (i : Instr) (len : Nat)
  /-- A reserved NOP (30_encoding R145) and its length. -/
  | nop (len : Nat)
  /-- A register form of PREFETCHIT0 or PREFETCHIT1 and its length: #UD (93 U3) or a reserved NOP (30_encoding R145, 49
  R458), as the processor has it (log 28). -/
  | registerHint (len : Nat)
  /-- An instruction with 16-bit addressing, which has no meaning (30_encoding R131), so that only the checks it makes
  whatever its address count (60 R484 item 1). Its memory operand is a placeholder. -/
  | narrow (i : Instr)
  /-- The encoding raises #UD. -/
  | undefined
  /-- The instruction does not end in the bytes given. -/
  | incomplete
  | refused (why : DecodeRefusal)
  deriving DecidableEq, Repr

/-- What decoding depends on: 64-bit mode or not, and CS.D outside it (30_encoding R142). -/
structure DecodeCtx where
  m64 : Bool
  d32 : Bool
  deriving DecidableEq, Repr

/-- The legacy bytes seen before the opcode (30_encoding R132). `mandLast` says that the last of them is 66, F2 or
F3. -/
structure LegacyPfx where
  seg : Option Seg
  p67 : Bool
  p66 : Bool
  pF2 : Bool
  pF3 : Bool
  lock : Bool
  mandLast : Bool
  deriving DecidableEq, Repr

/-- The extension bits of a REX or VEX byte (30_encoding R134, R138). -/
structure ExtBits where
  w : Bool
  r : Bool
  x : Bool
  b : Bool
  deriving DecidableEq, Repr

/-- How the operands of a VEX row are taken from its fields (30_encoding R141, R158). -/
inductive VexForm where
  | rm (mk : RegNum → RM → Instr)
  | rmMem (mk : RegNum → MemOp → Instr)
  | rmReg (mk : RegNum → RegNum → Instr)
  | rvm (mk : RegNum → RegNum → RM → Instr)
  | rvmReg (mk : RegNum → RegNum → RegNum → Instr)
  | rvmi (mk : RegNum → RegNum → RM → Byte → Instr)
  | mrv (mk : MemOp → RegNum → RegNum → Instr)
  | tile (mk : RegNum → RegNum → RegNum → Instr)
  | m7 (mk : RegNum → DWord → Instr)

/-- One VEX row: map number, pp, opcode, W, L, operand form (30_encoding R152, R154 to R157). -/
structure VexRow where
  map : Nat
  pp : Nat
  op : Nat
  w : Nat
  l : Nat
  form : VexForm

/-- What the table says of a VEX opcode. -/
inductive VexHit where
  | row (f : VexForm)
  /-- The opcode is in the table, with another W or L: #UD (30_encoding R139, R144). -/
  | badWL
  | unknown

/-! ## Fields -/

/-- A register number from its extension bit and its three low bits (30_encoding R134, R138). -/
def regOf (ext : Bool) (lo : BitVec 3) : RegNum := BitVec.ofBool ext ++ lo

/-- The extension bit of a register number. -/
def regExt (r : RegNum) : Bool := r.getLsbD 3

/-- The three low bits of a register number. -/
def regLo (r : RegNum) : BitVec 3 := r.extractLsb' 0 3

/-- ModRM.MOD, and SIB.scale: bits 7:6 (30_encoding R136, R137). -/
def modOf (b : Byte) : BitVec 2 := b.extractLsb' 6 2
/-- ModRM.REG, and SIB.index: bits 5:3. -/
def midOf (b : Byte) : BitVec 3 := b.extractLsb' 3 3
/-- ModRM.RM, and SIB.base: bits 2:0. -/
def lowOf (b : Byte) : BitVec 3 := b.extractLsb' 0 3

/-- A 32-bit little-endian field (30_encoding R140, 20_memory R80). -/
def le32 (b0 b1 b2 b3 : Byte) : DWord := b3 ++ b2 ++ b1 ++ b0

/-- The displacement ModRM.MOD calls for: none, 8 bits sign-extended, or 32 bits (30_encoding R131, R137).
`none` when the bytes end too early. -/
def takeDisp (md : BitVec 2) (bs : List Byte) : Option (DWord × List Byte) :=
  if md = 0 then some (0, bs)
  else if md = 1 then
    match bs with
    | b :: rest => some (b.signExtend 32, rest)
    | [] => none
  else
    match bs with
    | b0 :: b1 :: b2 :: b3 :: rest => some (le32 b0 b1 b2 b3, rest)
    | _ => none

/-- The effective address of a memory ModRM and the bytes after it (30_encoding R131, R137). -/
def takeEffAddr (m64 : Bool) (e : ExtBits) (md : BitVec 2) (rm : BitVec 3) (bs : List Byte) :
    Option (EffAddr × List Byte) :=
  if rm = 4 then
    match bs with
    | [] => none
    | sib :: rest =>
      let idx := regOf e.x (midOf sib)
      let index := if idx = 4 then none else some idx
      let scale := if idx = 4 then 0 else modOf sib
      if md = 0 ∧ lowOf sib = 5 then
        (takeDisp 2 rest).map fun d => (.sib none index scale d.1, d.2)
      else
        (takeDisp md rest).map fun d => (.sib (some (regOf e.b (lowOf sib))) index scale d.1, d.2)
  else if md = 0 ∧ rm = 5 then
    (takeDisp 2 bs).map fun d => (if m64 then .ripRel d.1 else .sib none none 0 d.1, d.2)
  else
    (takeDisp md bs).map fun d => (.sib (some (regOf e.b rm)) none 0 d.1, d.2)

/-- What 16-bit addressing makes of an instruction: no meaning, after #UD and other refusals of the encoding
(30_encoding R131, 60 R484 item 1). -/
def Decoded.narrowed : Decoded → Decoded
  | .instr i _ => .narrow i
  | .nop _ => .refused .addr16
  | .registerHint _ => .refused .addr16
  | d => d

/-- A memory operand, handed on with the bytes after it. With 16-bit addressing (30_encoding R131) the operand is a
placeholder, and so is the byte after it. A 67 byte in 16-bit code (CS.D = 0) selects 32-bit addressing, PRESUMED: R131
names both alone and not together (log 27). -/
def withMem (c : DecodeCtx) (p : LegacyPfx) (e : ExtBits) (modrm : Byte) (bs : List Byte)
    (k : MemOp → List Byte → Decoded) : Decoded :=
  if !c.m64 && c.d32 == p.p67 then (k ⟨p.seg, p.p67, .sib none none 0 0⟩ [0]).narrowed
  else
    match takeEffAddr c.m64 e (modOf modrm) (lowOf modrm) bs with
    | none => .incomplete
    | some (ea, rest) => k ⟨p.seg, p.p67, ea⟩ rest

/-- A register-or-memory operand of a VEX instruction: a register when ModRM.MOD = 11 (30_encoding R136). -/
def withRM (c : DecodeCtx) (p : LegacyPfx) (e : ExtBits) (modrm : Byte) (bs : List Byte)
    (k : RM → List Byte → Decoded) : Decoded :=
  if modOf modrm = 3 then k (.reg (regOf e.b (lowOf modrm))) bs
  else withMem c p e modrm bs fun m rest => k (.mem m) rest

/-! ## Legacy bytes before the opcode -/

/-- The state before any byte is seen. -/
def noPfx : LegacyPfx := ⟨none, false, false, false, false, false, false⟩

/-- A segment override. In 64-bit mode ES, CS, SS and DS have no effect and leave FS or GS in force (30_encoding R132). That
of two others the last one counts is the model's choice: R132 is silent on it (DESIGN CHOICE, log 28). -/
def LegacyPfx.override (m64 : Bool) (p : LegacyPfx) (x : Seg) : LegacyPfx :=
  let kept := m64 && (p.seg == some .fs || p.seg == some .gs) && !(x == .fs || x == .gs)
  { p with seg := if kept then p.seg else some x, mandLast := false }

/-- One legacy byte, if it is one (30_encoding R132, R133). -/
def pfxStep (m64 : Bool) (p : LegacyPfx) (b : Byte) : Option LegacyPfx :=
  if b = 0xF0 then some { p with lock := true, mandLast := false }
  else if b = 0xF2 then some { p with pF2 := true, mandLast := true }
  else if b = 0xF3 then some { p with pF3 := true, mandLast := true }
  else if b = 0x66 then some { p with p66 := true, mandLast := true }
  else if b = 0x67 then some { p with p67 := true, mandLast := false }
  else if b = 0x26 then some (p.override m64 .es)
  else if b = 0x2E then some (p.override m64 .cs)
  else if b = 0x36 then some (p.override m64 .ss)
  else if b = 0x3E then some (p.override m64 .ds)
  else if b = 0x64 then some (p.override m64 .fs)
  else if b = 0x65 then some (p.override m64 .gs)
  else none

/-- Collect the legacy bytes in front. -/
def splitPfx (m64 : Bool) (p : LegacyPfx) : List Byte → LegacyPfx × List Byte
  | [] => (p, [])
  | b :: rest =>
    match pfxStep m64 p b with
    | some q => splitPfx m64 q rest
    | none => (p, b :: rest)

/-- A REX byte: 0100WRXB (30_encoding R134). -/
def isRex (b : Byte) : Bool := b.extractLsb' 4 4 == 4

/-- The bits of a REX byte. -/
def rexBits (b : Byte) : ExtBits := ⟨b.getLsbD 3, b.getLsbD 2, b.getLsbD 1, b.getLsbD 0⟩

/-- Two or more of 66, F2, F3 were seen (30_encoding R133). -/
def LegacyPfx.several (p : LegacyPfx) : Bool := (p.p66 && p.pF2) || (p.p66 && p.pF3) || (p.pF2 && p.pF3)

/-- None of 66, F2, F3 was seen: `NP` (30_encoding R133). -/
def LegacyPfx.np (p : LegacyPfx) : Bool := !p.p66 && !p.pF2 && !p.pF3

/-- Only 66, only F2 or only F3 was seen, and it stands immediately before REX or the opcode, as a mandatory byte must
(30_encoding R133). -/
def LegacyPfx.mand66 (p : LegacyPfx) : Bool := p.p66 && !p.pF2 && !p.pF3 && p.mandLast
def LegacyPfx.mandF2 (p : LegacyPfx) : Bool := p.pF2 && !p.p66 && !p.pF3 && p.mandLast
def LegacyPfx.mandF3 (p : LegacyPfx) : Bool := p.pF3 && !p.p66 && !p.pF2 && p.mandLast

/-- An instruction that ends where `rest` begins. Several of 66, F2, F3 are refused (30_encoding R133); LOCK is #UD on
every one (R132). That the refusal comes first where both apply is the model's choice (DESIGN CHOICE, log 28). -/
def legacyDone (total : Nat) (p : LegacyPfx) (rest : List Byte) (d : Nat → Decoded) : Decoded :=
  if p.several then .refused .severalMandatory
  else if p.lock then .undefined
  else d (total - rest.length)

/-! ## Legacy opcodes -/

/-- The `0F 01` group, by its whole ModRM byte (30_encoding R153). MWAIT has no requirement on 66, F2, F3. That a
segment override or a 67 byte has no effect on the pointers that these instructions take from registers is the model's
choice (DESIGN CHOICE, log 28). -/
def decode0F01 (total : Nat) (p : LegacyPfx) (bs : List Byte) : Decoded :=
  match bs with
  | [] => .incomplete
  | m :: rest =>
    let done (i : Instr) := legacyDone total p rest fun n => .instr i n
    if p.several then .refused .severalMandatory
    else if m = 0xC5 ∧ p.np then done .pconfig
    else if m = 0xC6 ∧ p.np then done .wrmsrns
    else if m = 0xC6 ∧ p.mandF2 then done .rdmsrlist
    else if m = 0xC6 ∧ p.mandF3 then done .wrmsrlist
    else if m = 0xC7 ∧ p.np then done .pbndkb
    else if m = 0xC9 then done .mwait
    else if m = 0xEC ∧ p.mandF3 then done .uiret
    else .refused .outsideSpec

/-- The prefetch hint of a ModRM.REG, if it is one (30_encoding R145, R156). -/
def prefetchOf (reg : BitVec 3) : Option (MemOp → Instr) :=
  if reg = 0 then some .prefetchnta
  else if reg = 1 then some .prefetcht0
  else if reg = 2 then some .prefetcht1
  else if reg = 3 then some .prefetcht2
  else if reg = 6 then some .prefetchit1
  else if reg = 7 then some .prefetchit0
  else none

/-- `0F 18`: prefetch hints in the memory forms; `/4`, `/5` and the register forms are reserved NOPs (30_encoding R145,
R156; 49 R458), but those of `/6` and `/7`, the register forms of PREFETCHIT, are told apart (93 U3; log 28). -/
def decode0F18 (c : DecodeCtx) (total : Nat) (p : LegacyPfx) (e : ExtBits) (bs : List Byte) : Decoded :=
  match bs with
  | [] => .incomplete
  | m :: rest =>
    if modOf m = 3 then
      legacyDone total p rest fun n => if midOf m = 6 ∨ midOf m = 7 then .registerHint n else .nop n
    else withMem c p e m rest fun a rest' =>
      legacyDone total p rest' fun n =>
        match prefetchOf (midOf m) with
        | some mk => .instr (mk a) n
        | none => .nop n

/-- The RAO instruction that 66, F2, F3 and REX.W select, if one does (30_encoding R133, R151; outside 64-bit mode no REX
exists). -/
def raoOf (p : LegacyPfx) (w : Bool) : Option (MemOp → RegNum → Instr) :=
  if p.np then some (if w then .aadd64 else .aadd32)
  else if p.mand66 then some (if w then .aand64 else .aand32)
  else if p.mandF2 then some (if w then .aor64 else .aor32)
  else if p.mandF3 then some (if w then .axor64 else .axor32)
  else none

/-- `0F 38`: FC is RAO, with a register ModRM #UD (41_rao R211); F8 with F2 or F3 and a register ModRM is URDMSR or
UWRMSR (30_encoding R154, R159), #UD outside 64-bit mode (R142). -/
def decode0F38 (c : DecodeCtx) (total : Nat) (p : LegacyPfx) (e : ExtBits) (bs : List Byte) : Decoded :=
  match bs with
  | [] => .incomplete
  | [o] => if o = 0xFC ∨ o = 0xF8 then .incomplete else .refused .outsideSpec
  | o :: m :: rest =>
    if o = 0xFC then
      if p.several then .refused .severalMandatory
      else
        match raoOf p e.w with
        | none => .refused .outsideSpec
        | some mk =>
          if modOf m = 3 then .undefined
          else withMem c p e m rest fun a rest' =>
            legacyDone total p rest' fun n => .instr (mk a (regOf e.r (midOf m))) n
    else if o = 0xF8 ∧ modOf m = 3 then
      if p.several then .refused .severalMandatory
      else if !p.mandF2 && !p.mandF3 then .refused .outsideSpec
      else if !c.m64 then .undefined
      else
        let reg := regOf e.r (midOf m)
        let rm := regOf e.b (lowOf m)
        legacyDone total p rest fun n => .instr (if p.pF2 then .urdmsrReg rm reg else .uwrmsrReg reg rm) n
    else .refused .outsideSpec

/-- An opcode in one of the legacy maps (30_encoding R130, R135, R150 to R156). -/
def decodeLegacy (c : DecodeCtx) (total : Nat) (p : LegacyPfx) (e : ExtBits) (bs : List Byte) : Decoded :=
  match bs with
  | [] => .incomplete
  | b :: t =>
    if b ≠ 0x0F then .refused .outsideSpec
    else
      match t with
      | [] => .incomplete
      | o :: rest =>
        if o = 0xA2 then legacyDone total p rest fun n => .instr .cpuid n
        else if o = 0x01 then decode0F01 total p rest
        else if o = 0x18 then decode0F18 c total p e rest
        else if o = 0x38 then decode0F38 c total p e rest
        else .refused .outsideSpec

/-! ## VEX opcodes -/

/-- The VEX rows of CMPccXADD (30_encoding R152): map, pp, opcode, W, L. -/
def vexRowsCmp : List VexRow :=
  [⟨2, 1, 0xE0, 0, 0, .mrv .cmpoxadd32⟩,
   ⟨2, 1, 0xE0, 1, 0, .mrv .cmpoxadd64⟩,
   ⟨2, 1, 0xE1, 0, 0, .mrv .cmpnoxadd32⟩,
   ⟨2, 1, 0xE1, 1, 0, .mrv .cmpnoxadd64⟩,
   ⟨2, 1, 0xE2, 0, 0, .mrv .cmpbxadd32⟩,
   ⟨2, 1, 0xE2, 1, 0, .mrv .cmpbxadd64⟩,
   ⟨2, 1, 0xE3, 0, 0, .mrv .cmpnbxadd32⟩,
   ⟨2, 1, 0xE3, 1, 0, .mrv .cmpnbxadd64⟩,
   ⟨2, 1, 0xE4, 0, 0, .mrv .cmpzxadd32⟩,
   ⟨2, 1, 0xE4, 1, 0, .mrv .cmpzxadd64⟩,
   ⟨2, 1, 0xE5, 0, 0, .mrv .cmpnzxadd32⟩,
   ⟨2, 1, 0xE5, 1, 0, .mrv .cmpnzxadd64⟩,
   ⟨2, 1, 0xE6, 0, 0, .mrv .cmpbexadd32⟩,
   ⟨2, 1, 0xE6, 1, 0, .mrv .cmpbexadd64⟩,
   ⟨2, 1, 0xE7, 0, 0, .mrv .cmpnbexadd32⟩,
   ⟨2, 1, 0xE7, 1, 0, .mrv .cmpnbexadd64⟩,
   ⟨2, 1, 0xE8, 0, 0, .mrv .cmpsxadd32⟩,
   ⟨2, 1, 0xE8, 1, 0, .mrv .cmpsxadd64⟩,
   ⟨2, 1, 0xE9, 0, 0, .mrv .cmpnsxadd32⟩,
   ⟨2, 1, 0xE9, 1, 0, .mrv .cmpnsxadd64⟩,
   ⟨2, 1, 0xEA, 0, 0, .mrv .cmppxadd32⟩,
   ⟨2, 1, 0xEA, 1, 0, .mrv .cmppxadd64⟩,
   ⟨2, 1, 0xEB, 0, 0, .mrv .cmpnpxadd32⟩,
   ⟨2, 1, 0xEB, 1, 0, .mrv .cmpnpxadd64⟩,
   ⟨2, 1, 0xEC, 0, 0, .mrv .cmplxadd32⟩,
   ⟨2, 1, 0xEC, 1, 0, .mrv .cmplxadd64⟩,
   ⟨2, 1, 0xED, 0, 0, .mrv .cmpnlxadd32⟩,
   ⟨2, 1, 0xED, 1, 0, .mrv .cmpnlxadd64⟩,
   ⟨2, 1, 0xEE, 0, 0, .mrv .cmplexadd32⟩,
   ⟨2, 1, 0xEE, 1, 0, .mrv .cmplexadd64⟩,
   ⟨2, 1, 0xEF, 0, 0, .mrv .cmpnlexadd32⟩,
   ⟨2, 1, 0xEF, 1, 0, .mrv .cmpnlexadd64⟩]

/-- The VEX rows of AVX-VNNI-INT8, AVX-VNNI-INT16 and AVX-IFMA (30_encoding R155): map, pp, opcode, W, L. -/
def vexRowsDot : List VexRow :=
  [⟨2, 3, 0x50, 0, 0, .rvm .vpdpbssd128⟩,
   ⟨2, 3, 0x50, 0, 1, .rvm .vpdpbssd256⟩,
   ⟨2, 3, 0x51, 0, 0, .rvm .vpdpbssds128⟩,
   ⟨2, 3, 0x51, 0, 1, .rvm .vpdpbssds256⟩,
   ⟨2, 2, 0x50, 0, 0, .rvm .vpdpbsud128⟩,
   ⟨2, 2, 0x50, 0, 1, .rvm .vpdpbsud256⟩,
   ⟨2, 2, 0x51, 0, 0, .rvm .vpdpbsuds128⟩,
   ⟨2, 2, 0x51, 0, 1, .rvm .vpdpbsuds256⟩,
   ⟨2, 0, 0x50, 0, 0, .rvm .vpdpbuud128⟩,
   ⟨2, 0, 0x50, 0, 1, .rvm .vpdpbuud256⟩,
   ⟨2, 0, 0x51, 0, 0, .rvm .vpdpbuuds128⟩,
   ⟨2, 0, 0x51, 0, 1, .rvm .vpdpbuuds256⟩,
   ⟨2, 2, 0xD2, 0, 0, .rvm .vpdpwsud128⟩,
   ⟨2, 2, 0xD2, 0, 1, .rvm .vpdpwsud256⟩,
   ⟨2, 2, 0xD3, 0, 0, .rvm .vpdpwsuds128⟩,
   ⟨2, 2, 0xD3, 0, 1, .rvm .vpdpwsuds256⟩,
   ⟨2, 1, 0xD2, 0, 0, .rvm .vpdpwusd128⟩,
   ⟨2, 1, 0xD2, 0, 1, .rvm .vpdpwusd256⟩,
   ⟨2, 1, 0xD3, 0, 0, .rvm .vpdpwusds128⟩,
   ⟨2, 1, 0xD3, 0, 1, .rvm .vpdpwusds256⟩,
   ⟨2, 0, 0xD2, 0, 0, .rvm .vpdpwuud128⟩,
   ⟨2, 0, 0xD2, 0, 1, .rvm .vpdpwuud256⟩,
   ⟨2, 0, 0xD3, 0, 0, .rvm .vpdpwuuds128⟩,
   ⟨2, 0, 0xD3, 0, 1, .rvm .vpdpwuuds256⟩,
   ⟨2, 1, 0xB5, 1, 0, .rvm .vpmadd52huq128⟩,
   ⟨2, 1, 0xB5, 1, 1, .rvm .vpmadd52huq256⟩,
   ⟨2, 1, 0xB4, 1, 0, .rvm .vpmadd52luq128⟩,
   ⟨2, 1, 0xB4, 1, 1, .rvm .vpmadd52luq256⟩]

/-- The VEX rows of AVX-NE-CONVERT (30_encoding R155): map, pp, opcode, W, L. -/
def vexRowsConvert : List VexRow :=
  [⟨2, 2, 0x72, 0, 0, .rm .vcvtneps2bf16128⟩,
   ⟨2, 2, 0x72, 0, 1, .rm .vcvtneps2bf16256⟩,
   ⟨2, 2, 0xB0, 0, 0, .rmMem .vcvtneebf162ps128⟩,
   ⟨2, 2, 0xB0, 0, 1, .rmMem .vcvtneebf162ps256⟩,
   ⟨2, 1, 0xB0, 0, 0, .rmMem .vcvtneeph2ps128⟩,
   ⟨2, 1, 0xB0, 0, 1, .rmMem .vcvtneeph2ps256⟩,
   ⟨2, 3, 0xB0, 0, 0, .rmMem .vcvtneobf162ps128⟩,
   ⟨2, 3, 0xB0, 0, 1, .rmMem .vcvtneobf162ps256⟩,
   ⟨2, 0, 0xB0, 0, 0, .rmMem .vcvtneoph2ps128⟩,
   ⟨2, 0, 0xB0, 0, 1, .rmMem .vcvtneoph2ps256⟩,
   ⟨2, 2, 0xB1, 0, 0, .rmMem .vbcstnebf162ps128⟩,
   ⟨2, 2, 0xB1, 0, 1, .rmMem .vbcstnebf162ps256⟩,
   ⟨2, 1, 0xB1, 0, 0, .rmMem .vbcstnesh2ps128⟩,
   ⟨2, 1, 0xB1, 0, 1, .rmMem .vbcstnesh2ps256⟩]

/-- The VEX rows of SHA512, SM3 and SM4 (30_encoding R155, R157): map, pp, opcode, W, L. -/
def vexRowsHash : List VexRow :=
  [⟨2, 3, 0xCB, 0, 1, .rvmReg .vsha512rnds2⟩,
   ⟨2, 3, 0xCC, 0, 1, .rmReg .vsha512msg1⟩,
   ⟨2, 3, 0xCD, 0, 1, .rmReg .vsha512msg2⟩,
   ⟨2, 0, 0xDA, 0, 0, .rvm .vsm3msg1⟩,
   ⟨2, 1, 0xDA, 0, 0, .rvm .vsm3msg2⟩,
   ⟨3, 1, 0xDE, 0, 0, .rvmi .vsm3rnds2⟩,
   ⟨2, 2, 0xDA, 0, 0, .rvm .vsm4key4128⟩,
   ⟨2, 2, 0xDA, 0, 1, .rvm .vsm4key4256⟩,
   ⟨2, 3, 0xDA, 0, 0, .rvm .vsm4rnds4128⟩,
   ⟨2, 3, 0xDA, 0, 1, .rvm .vsm4rnds4256⟩]

/-- The VEX rows of AMX and the immediate user-MSR forms (30_encoding R154, R155): map, pp, opcode, W, L. -/
def vexRowsOther : List VexRow :=
  [⟨7, 3, 0xF8, 0, 0, .m7 .urdmsrImm⟩,
   ⟨7, 2, 0xF8, 0, 0, .m7 (fun r i => .uwrmsrImm i r)⟩,
   ⟨2, 3, 0x5C, 0, 0, .tile .tdpfp16ps⟩,
   ⟨2, 1, 0x6C, 0, 0, .tile .tcmmimfp16ps⟩,
   ⟨2, 0, 0x6C, 0, 0, .tile .tcmmrlfp16ps⟩]

/-- Every VEX row of the opcode table. -/
def vexTable : List VexRow := vexRowsCmp ++ vexRowsDot ++ vexRowsConvert ++ vexRowsHash ++ vexRowsOther

/-- Look a VEX opcode up (30_encoding R139, R144). -/
def vexFind (map pp op w l : Nat) : VexHit :=
  match vexTable.find? (fun r => r.op == op && r.map == map && r.pp == pp && r.w == w && r.l == l) with
  | some r => .row r.form
  | none => if vexTable.any (fun r => r.op == op && r.map == map && r.pp == pp) then .badWL else .unknown

/-- The four immediate bytes and what follows. -/
def withImm32 (bs : List Byte) (k : DWord → List Byte → Decoded) : Decoded :=
  match bs with
  | b0 :: b1 :: b2 :: b3 :: rest => k (le32 b0 b1 b2 b3) rest
  | _ => .incomplete

/-- The operands of a VEX row (30_encoding R136, R139 to R141). `raw` is the vvvv field in one's complement, 0 when it
holds 1111b, as it must where it names no register (R139); outside 64-bit mode its bit 3 does not count in a register
number (R138). `e` holds R, X and B as REX would. A form of 64-bit mode only is #UD elsewhere (R142), a tile number above 7
is #UD (R144). -/
def vexOperands (c : DecodeCtx) (total : Nat) (p : LegacyPfx) (e : ExtBits) (raw : RegNum) (f : VexForm) (m : Byte)
    (bs : List Byte) : Decoded :=
  let reg := regOf e.r (midOf m)
  let rm := regOf e.b (lowOf m)
  let v : RegNum := if c.m64 then raw else raw &&& 7
  let isReg : Bool := modOf m == 3
  let done (i : Instr) (rest : List Byte) : Decoded := .instr i (total - rest.length)
  match f with
  | .rm mk => if raw ≠ 0 then .undefined else withRM c p e m bs fun o rest => done (mk reg o) rest
  | .rmMem mk =>
    if raw ≠ 0 ∨ isReg then .undefined else withMem c p e m bs fun a rest => done (mk reg a) rest
  | .rmReg mk => if raw ≠ 0 ∨ !isReg then .undefined else done (mk reg rm) bs
  | .rvm mk => withRM c p e m bs fun o rest => done (mk reg v o) rest
  | .rvmReg mk => if !isReg then .undefined else done (mk reg v rm) bs
  | .rvmi mk => withRM c p e m bs fun o rest =>
      match rest with
      | [] => .incomplete
      | b :: rest' => done (mk reg v o b) rest'
  | .mrv mk =>
    if !c.m64 ∨ isReg then .undefined else withMem c p e m bs fun a rest => done (mk a reg v) rest
  | .tile mk =>
    if !c.m64 ∨ !isReg ∨ 7 < reg.toNat ∨ 7 < rm.toNat ∨ 7 < v.toNat then .undefined else done (mk reg rm v) bs
  | .m7 mk =>
    if !c.m64 ∨ raw ≠ 0 ∨ !isReg ∨ midOf m ≠ 0 then .undefined
    else withImm32 bs fun d rest => done (mk rm d) rest

/-- The bits of the VEX bytes P1 and P2 that extend register numbers (30_encoding R138): B is ignored outside
64-bit mode. -/
def vexBits (c : DecodeCtx) (p1 p2 : Byte) : ExtBits :=
  ⟨p2.getLsbD 7, !p1.getLsbD 7, !p1.getLsbD 6, c.m64 && !p1.getLsbD 5⟩

/-- A three-byte VEX instruction, after the byte C4 (30_encoding R138). -/
def decodeVex3 (c : DecodeCtx) (total : Nat) (p : LegacyPfx) (bs : List Byte) : Decoded :=
  match bs with
  | p1 :: p2 :: op :: rest =>
    match vexFind (p1.extractLsb' 0 5).toNat (p2.extractLsb' 0 2).toNat op.toNat
        (p2.extractLsb' 7 1).toNat (p2.extractLsb' 2 1).toNat with
    | .unknown => .refused .outsideSpec
    | .badWL => .undefined
    | .row f =>
      match rest with
      | [] => .incomplete
      | m :: rest' => vexOperands c total p (vexBits c p1 p2) (~~~(p2.extractLsb' 3 4)) f m rest'
  | _ => .incomplete

/-- A VEX byte: one with LOCK, 66, F2 or F3 before it is #UD; outside 64-bit mode it needs 11 in the next byte's bits
7:6; no row has the two-byte form (30_encoding R138). -/
def decodeVex (c : DecodeCtx) (total : Nat) (p : LegacyPfx) (three : Bool) (bs : List Byte) : Decoded :=
  match bs with
  | [] => .incomplete
  | n :: _ =>
    if !c.m64 && modOf n != 3 then .refused .outsideSpec
    else if p.lock || !p.np then .undefined
    else if three then decodeVex3 c total p bs
    else .refused .outsideSpec

/-! ## The decoder -/

/-- A byte that may stand between a misplaced REX byte and the opcode. -/
def isPrefixByte (b : Byte) : Bool := (pfxStep true noPfx b).isSome || isRex b

/-- What follows a REX byte: a VEX byte, further legacy or REX bytes between them or not, is #UD (30_encoding R134,
R138); a REX byte that is not immediately before the opcode is refused (log 28). -/
def decodeRex (c : DecodeCtx) (total : Nat) (p : LegacyPfx) (rex : Byte) (bs : List Byte) : Decoded :=
  match bs.dropWhile isPrefixByte with
  | [] => .incomplete
  | n :: _ =>
    if n = 0xC4 ∨ n = 0xC5 then .undefined
    else if (bs.takeWhile isPrefixByte).isEmpty then decodeLegacy c total p (rexBits rex) bs
    else .refused .rexMisplaced

/-- The first byte after the legacy bytes: REX, VEX, EVEX or an opcode (30_encoding R130, R134, R138, R143). -/
def decodeFrom (c : DecodeCtx) (total : Nat) (p : LegacyPfx) (bs : List Byte) : Decoded :=
  match bs with
  | [] => .incomplete
  | b :: rest =>
    if c.m64 && isRex b then decodeRex c total p b rest
    else if b = 0xC4 then decodeVex c total p true rest
    else if b = 0xC5 then decodeVex c total p false rest
    else if c.m64 && b == 0x62 then .refused .evex
    else decodeLegacy c total p ⟨false, false, false, false⟩ (b :: rest)

/-- The instruction at the head of `bs` (30_encoding R130 to R159). -/
def decode (c : DecodeCtx) (bs : List Byte) : Decoded :=
  decodeFrom c bs.length (splitPfx c.m64 noPfx bs).1 (splitPfx c.m64 noPfx bs).2

/-! ## The encoder -/

/-- A ModRM or SIB byte from its fields (30_encoding R136, R137). -/
def mkModRM (a : BitVec 2) (b c : BitVec 3) : Byte := a ++ b ++ c

/-- The four bytes of a 32-bit field, low byte first. -/
def bytes32 (d : DWord) : List Byte :=
  [d.extractLsb' 0 8, d.extractLsb' 8 8, d.extractLsb' 16 8, d.extractLsb' 24 8]

/-- The byte of a segment override. -/
def segByte : Seg → Byte
  | .es => 0x26 | .cs => 0x2E | .ss => 0x36 | .ds => 0x3E | .fs => 0x64 | .gs => 0x65

/-- The bytes in front of an instruction with a memory operand: segment override, then 67. -/
def memPfx (m : MemOp) : List Byte :=
  (match m.seg with | some s => [segByte s] | none => []) ++ (if m.addr32 then [0x67] else [])

/-- The bytes in front of an instruction with a register-or-memory operand. -/
def rmPfx : RM → List Byte
  | .reg _ => []
  | .mem m => memPfx m

/-- The SIB.index register number: RSP stands for none. -/
def indexNum : Option RegNum → RegNum
  | some i => i
  | none => 4

/-- The X bit an address needs. -/
def EffAddr.extX : EffAddr → Bool
  | .ripRel _ => false
  | .sib _ i _ _ => regExt (indexNum i)

/-- The B bit an address needs. -/
def EffAddr.extB : EffAddr → Bool
  | .sib (some b) _ _ _ => regExt b
  | _ => false

/-- ModRM, SIB and a 32-bit displacement for an address, with `reg` in ModRM.REG. -/
def EffAddr.tail (reg : BitVec 3) : EffAddr → List Byte
  | .ripRel d => mkModRM 0 reg 5 :: bytes32 d
  | .sib none i s d => mkModRM 0 reg 4 :: mkModRM s (regLo (indexNum i)) 5 :: bytes32 d
  | .sib (some b) i s d => mkModRM 2 reg 4 :: mkModRM s (regLo (indexNum i)) (regLo b) :: bytes32 d

/-- The X bit of a register-or-memory operand. -/
def RM.extX : RM → Bool
  | .reg _ => false
  | .mem m => m.ea.extX

/-- The B bit of a register-or-memory operand. -/
def RM.extB : RM → Bool
  | .reg r => regExt r
  | .mem m => m.ea.extB

/-- ModRM and what follows it for a register-or-memory operand. -/
def RM.tail (reg : BitVec 3) : RM → List Byte
  | .reg r => [mkModRM 3 reg (regLo r)]
  | .mem m => m.ea.tail reg

/-- A REX byte. -/
def mkRex (w r x b : Bool) : Byte :=
  (4 : BitVec 4) ++ BitVec.ofBool w ++ BitVec.ofBool r ++ BitVec.ofBool x ++ BitVec.ofBool b

/-- The bytes C4, P1, P2 and the opcode (30_encoding R138). -/
def vexHead (map : BitVec 5) (pp : BitVec 2) (w l r x b : Bool) (v : RegNum) (op : Byte) : List Byte :=
  [0xC4, BitVec.ofBool (!r) ++ BitVec.ofBool (!x) ++ BitVec.ofBool (!b) ++ map,
    BitVec.ofBool w ++ ~~~v ++ BitVec.ofBool l ++ pp, op]

/-- A legacy instruction with a memory operand: mandatory byte, REX, opcode bytes, ModRM. -/
def encLegacyMem (mand : List Byte) (w : Bool) (ops : List Byte) (reg : RegNum) (m : MemOp) : List Byte :=
  memPfx m ++ mand ++ mkRex w (regExt reg) m.ea.extX m.ea.extB :: (ops ++ m.ea.tail (regLo reg))

/-- A legacy instruction with two registers. -/
def encLegacyRR (mand : List Byte) (ops : List Byte) (reg rm : RegNum) : List Byte :=
  mand ++ mkRex false (regExt reg) false (regExt rm) :: (ops ++ [mkModRM 3 (regLo reg) (regLo rm)])

/-- A VEX instruction with a register-or-memory operand. -/
def encVexRM (map : BitVec 5) (pp : BitVec 2) (w l : Bool) (op : Byte) (reg v : RegNum) (o : RM) : List Byte :=
  rmPfx o ++ vexHead map pp w l (regExt reg) o.extX o.extB v op ++ o.tail (regLo reg)

/-- The bytes of an instruction in 64-bit mode (30_encoding R150 to R157). -/
def encode : Instr → List Byte
  | .cpuid => [0x0F, 0xA2]
  | .aadd32 dst src => encLegacyMem [] false [0x0F, 0x38, 0xFC] src dst
  | .aadd64 dst src => encLegacyMem [] true [0x0F, 0x38, 0xFC] src dst
  | .aand32 dst src => encLegacyMem [0x66] false [0x0F, 0x38, 0xFC] src dst
  | .aand64 dst src => encLegacyMem [0x66] true [0x0F, 0x38, 0xFC] src dst
  | .aor32 dst src => encLegacyMem [0xF2] false [0x0F, 0x38, 0xFC] src dst
  | .aor64 dst src => encLegacyMem [0xF2] true [0x0F, 0x38, 0xFC] src dst
  | .axor32 dst src => encLegacyMem [0xF3] false [0x0F, 0x38, 0xFC] src dst
  | .axor64 dst src => encLegacyMem [0xF3] true [0x0F, 0x38, 0xFC] src dst
  | .cmpoxadd32 m a b => encVexRM 2 1 false false 0xE0 a b (.mem m)
  | .cmpoxadd64 m a b => encVexRM 2 1 true false 0xE0 a b (.mem m)
  | .cmpnoxadd32 m a b => encVexRM 2 1 false false 0xE1 a b (.mem m)
  | .cmpnoxadd64 m a b => encVexRM 2 1 true false 0xE1 a b (.mem m)
  | .cmpbxadd32 m a b => encVexRM 2 1 false false 0xE2 a b (.mem m)
  | .cmpbxadd64 m a b => encVexRM 2 1 true false 0xE2 a b (.mem m)
  | .cmpnbxadd32 m a b => encVexRM 2 1 false false 0xE3 a b (.mem m)
  | .cmpnbxadd64 m a b => encVexRM 2 1 true false 0xE3 a b (.mem m)
  | .cmpzxadd32 m a b => encVexRM 2 1 false false 0xE4 a b (.mem m)
  | .cmpzxadd64 m a b => encVexRM 2 1 true false 0xE4 a b (.mem m)
  | .cmpnzxadd32 m a b => encVexRM 2 1 false false 0xE5 a b (.mem m)
  | .cmpnzxadd64 m a b => encVexRM 2 1 true false 0xE5 a b (.mem m)
  | .cmpbexadd32 m a b => encVexRM 2 1 false false 0xE6 a b (.mem m)
  | .cmpbexadd64 m a b => encVexRM 2 1 true false 0xE6 a b (.mem m)
  | .cmpnbexadd32 m a b => encVexRM 2 1 false false 0xE7 a b (.mem m)
  | .cmpnbexadd64 m a b => encVexRM 2 1 true false 0xE7 a b (.mem m)
  | .cmpsxadd32 m a b => encVexRM 2 1 false false 0xE8 a b (.mem m)
  | .cmpsxadd64 m a b => encVexRM 2 1 true false 0xE8 a b (.mem m)
  | .cmpnsxadd32 m a b => encVexRM 2 1 false false 0xE9 a b (.mem m)
  | .cmpnsxadd64 m a b => encVexRM 2 1 true false 0xE9 a b (.mem m)
  | .cmppxadd32 m a b => encVexRM 2 1 false false 0xEA a b (.mem m)
  | .cmppxadd64 m a b => encVexRM 2 1 true false 0xEA a b (.mem m)
  | .cmpnpxadd32 m a b => encVexRM 2 1 false false 0xEB a b (.mem m)
  | .cmpnpxadd64 m a b => encVexRM 2 1 true false 0xEB a b (.mem m)
  | .cmplxadd32 m a b => encVexRM 2 1 false false 0xEC a b (.mem m)
  | .cmplxadd64 m a b => encVexRM 2 1 true false 0xEC a b (.mem m)
  | .cmpnlxadd32 m a b => encVexRM 2 1 false false 0xED a b (.mem m)
  | .cmpnlxadd64 m a b => encVexRM 2 1 true false 0xED a b (.mem m)
  | .cmplexadd32 m a b => encVexRM 2 1 false false 0xEE a b (.mem m)
  | .cmplexadd64 m a b => encVexRM 2 1 true false 0xEE a b (.mem m)
  | .cmpnlexadd32 m a b => encVexRM 2 1 false false 0xEF a b (.mem m)
  | .cmpnlexadd64 m a b => encVexRM 2 1 true false 0xEF a b (.mem m)
  | .pconfig => [0x0F, 0x01, 0xC5]
  | .wrmsrns => [0x0F, 0x01, 0xC6]
  | .rdmsrlist => [0xF2, 0x0F, 0x01, 0xC6]
  | .wrmsrlist => [0xF3, 0x0F, 0x01, 0xC6]
  | .pbndkb => [0x0F, 0x01, 0xC7]
  | .mwait => [0x0F, 0x01, 0xC9]
  | .uiret => [0xF3, 0x0F, 0x01, 0xEC]
  | .urdmsrReg dst addr => encLegacyRR [0xF2] [0x0F, 0x38, 0xF8] addr dst
  | .urdmsrImm dst imm => encVexRM 7 3 false false 0xF8 0 0 (.reg dst) ++ bytes32 imm
  | .uwrmsrReg addr src => encLegacyRR [0xF3] [0x0F, 0x38, 0xF8] addr src
  | .uwrmsrImm imm src => encVexRM 7 2 false false 0xF8 0 0 (.reg src) ++ bytes32 imm
  | .vpdpbssd128 d a b => encVexRM 2 3 false false 0x50 d a b
  | .vpdpbssd256 d a b => encVexRM 2 3 false true 0x50 d a b
  | .vpdpbssds128 d a b => encVexRM 2 3 false false 0x51 d a b
  | .vpdpbssds256 d a b => encVexRM 2 3 false true 0x51 d a b
  | .vpdpbsud128 d a b => encVexRM 2 2 false false 0x50 d a b
  | .vpdpbsud256 d a b => encVexRM 2 2 false true 0x50 d a b
  | .vpdpbsuds128 d a b => encVexRM 2 2 false false 0x51 d a b
  | .vpdpbsuds256 d a b => encVexRM 2 2 false true 0x51 d a b
  | .vpdpbuud128 d a b => encVexRM 2 0 false false 0x50 d a b
  | .vpdpbuud256 d a b => encVexRM 2 0 false true 0x50 d a b
  | .vpdpbuuds128 d a b => encVexRM 2 0 false false 0x51 d a b
  | .vpdpbuuds256 d a b => encVexRM 2 0 false true 0x51 d a b
  | .vpdpwsud128 d a b => encVexRM 2 2 false false 0xD2 d a b
  | .vpdpwsud256 d a b => encVexRM 2 2 false true 0xD2 d a b
  | .vpdpwsuds128 d a b => encVexRM 2 2 false false 0xD3 d a b
  | .vpdpwsuds256 d a b => encVexRM 2 2 false true 0xD3 d a b
  | .vpdpwusd128 d a b => encVexRM 2 1 false false 0xD2 d a b
  | .vpdpwusd256 d a b => encVexRM 2 1 false true 0xD2 d a b
  | .vpdpwusds128 d a b => encVexRM 2 1 false false 0xD3 d a b
  | .vpdpwusds256 d a b => encVexRM 2 1 false true 0xD3 d a b
  | .vpdpwuud128 d a b => encVexRM 2 0 false false 0xD2 d a b
  | .vpdpwuud256 d a b => encVexRM 2 0 false true 0xD2 d a b
  | .vpdpwuuds128 d a b => encVexRM 2 0 false false 0xD3 d a b
  | .vpdpwuuds256 d a b => encVexRM 2 0 false true 0xD3 d a b
  | .vpmadd52huq128 d a b => encVexRM 2 1 true false 0xB5 d a b
  | .vpmadd52huq256 d a b => encVexRM 2 1 true true 0xB5 d a b
  | .vpmadd52luq128 d a b => encVexRM 2 1 true false 0xB4 d a b
  | .vpmadd52luq256 d a b => encVexRM 2 1 true true 0xB4 d a b
  | .tdpfp16ps d a b => encVexRM 2 3 false false 0x5C d b (.reg a)
  | .tcmmimfp16ps d a b => encVexRM 2 1 false false 0x6C d b (.reg a)
  | .tcmmrlfp16ps d a b => encVexRM 2 0 false false 0x6C d b (.reg a)
  | .vcvtneps2bf16128 d b => encVexRM 2 2 false false 0x72 d 0 b
  | .vcvtneps2bf16256 d b => encVexRM 2 2 false true 0x72 d 0 b
  | .vcvtneebf162ps128 d m => encVexRM 2 2 false false 0xB0 d 0 (.mem m)
  | .vcvtneebf162ps256 d m => encVexRM 2 2 false true 0xB0 d 0 (.mem m)
  | .vcvtneeph2ps128 d m => encVexRM 2 1 false false 0xB0 d 0 (.mem m)
  | .vcvtneeph2ps256 d m => encVexRM 2 1 false true 0xB0 d 0 (.mem m)
  | .vcvtneobf162ps128 d m => encVexRM 2 3 false false 0xB0 d 0 (.mem m)
  | .vcvtneobf162ps256 d m => encVexRM 2 3 false true 0xB0 d 0 (.mem m)
  | .vcvtneoph2ps128 d m => encVexRM 2 0 false false 0xB0 d 0 (.mem m)
  | .vcvtneoph2ps256 d m => encVexRM 2 0 false true 0xB0 d 0 (.mem m)
  | .vbcstnebf162ps128 d m => encVexRM 2 2 false false 0xB1 d 0 (.mem m)
  | .vbcstnebf162ps256 d m => encVexRM 2 2 false true 0xB1 d 0 (.mem m)
  | .vbcstnesh2ps128 d m => encVexRM 2 1 false false 0xB1 d 0 (.mem m)
  | .vbcstnesh2ps256 d m => encVexRM 2 1 false true 0xB1 d 0 (.mem m)
  | .vsha512rnds2 d a b => encVexRM 2 3 false true 0xCB d a (.reg b)
  | .vsha512msg1 d b => encVexRM 2 3 false true 0xCC d 0 (.reg b)
  | .vsha512msg2 d b => encVexRM 2 3 false true 0xCD d 0 (.reg b)
  | .vsm3msg1 d a b => encVexRM 2 0 false false 0xDA d a b
  | .vsm3msg2 d a b => encVexRM 2 1 false false 0xDA d a b
  | .vsm3rnds2 d a b imm => encVexRM 3 1 false false 0xDE d a b ++ [imm]
  | .vsm4key4128 d a b => encVexRM 2 2 false false 0xDA d a b
  | .vsm4key4256 d a b => encVexRM 2 2 false true 0xDA d a b
  | .vsm4rnds4128 d a b => encVexRM 2 3 false false 0xDA d a b
  | .vsm4rnds4256 d a b => encVexRM 2 3 false true 0xDA d a b
  | .prefetchnta m => encLegacyMem [] false [0x0F, 0x18] 0 m
  | .prefetcht0 m => encLegacyMem [] false [0x0F, 0x18] 1 m
  | .prefetcht1 m => encLegacyMem [] false [0x0F, 0x18] 2 m
  | .prefetcht2 m => encLegacyMem [] false [0x0F, 0x18] 3 m
  | .prefetchit1 m => encLegacyMem [] false [0x0F, 0x18] 6 m
  | .prefetchit0 m => encLegacyMem [] false [0x0F, 0x18] 7 m

/-! ## Words of the opcode table -/

/-- The first `n` bytes of a number, most significant first: how the opcode table numbers the canonical bytes
(30_encoding R158). -/
def wordBytes (n w : Nat) : List Byte :=
  (List.range n).map fun i => BitVec.ofNat 8 (w >>> (8 * (n - 1 - i)))

/-- From the canonical five bytes of an opcode-table row to the bytes the processor fetches (30_encoding R158): a
canonical 00 stands for no mandatory byte and no second escape byte. -/
def denormalise : List Byte → List Byte
  | 0xC4 :: rest => 0xC4 :: rest
  | p :: f :: e :: o :: rest =>
    (if p = 0 then [] else [p]) ++ f :: ((if e = 0 then [] else [e]) ++ o :: rest)
  | bs => bs

/-- Fifteen bytes: the bytes given, then zeros. -/
def padTo15 (bs : List Byte) : List Byte := (bs ++ List.replicate 15 0).take 15

/-- The decoder's instruction in the bytes given, in 64-bit mode. -/
def decodedInstr (bs : List Byte) : Option Instr :=
  match decode ⟨true, true⟩ bs with
  | .instr i _ => some i
  | _ => none

/-- The fetched bytes of a table word: first byte most significant, as the table's rule says (30_encoding R158); the
other byte order only where that reading gives no instruction (log 40). -/
def tableBytes (nbits w : Nat) : List Byte :=
  let bs := wordBytes ((nbits + 7) / 8) w
  if (decodedInstr (padTo15 (denormalise bs))).isSome then padTo15 (denormalise bs)
  else if (decodedInstr (padTo15 (denormalise bs.reverse))).isSome then padTo15 (denormalise bs.reverse)
  else padTo15 (denormalise bs)

/-- The instruction the decoder reads from a word of the opcode table, every bit above it zero. -/
def decodeTableWord (nbits w : Nat) : Option Instr := decodedInstr (tableBytes nbits w)

end Sys2Proof
end

