-- ==== Sys2Proof/Machine/Fetch.lean ====
section
/-! DEFINITION. Fetching the bytes of an instruction at RIP and decoding them (30_encoding R130, R131; 20_memory R95,
R116, R124; 92 D14). -/

namespace Sys2Proof.Machine

/-- The linear address of instruction byte `i`: canonical and not wrapped in 64-bit mode, neither inside the instruction
nor before it (10_state R25, 92 D14), inside the CS limit elsewhere; then LASS (20_memory R116). -/
def fetchLinear (s : State) (i : Nat) : Except Stop QWord :=
  if s.in64 then
    let la := s.rip + BitVec.ofNat 64 i
    if !s.ripWrapped ∧ s.rip.toNat + i < 2 ^ 64 ∧ s.canonical la ∧ lassFetch s la then .ok la else .error gp0
  else
    let off := s.rip.toNat % 2 ^ 32 + i
    let la : QWord := ((s.segs.cs.base + BitVec.ofNat 64 off).setWidth 32).setWidth 64
    if off ≤ s.segs.cs.limit.toNat ∧ lassFetch s la then .ok la else .error gp0

/-- The physical address of instruction byte `i`. -/
def fetchPhysical (s : State) (i : Nat) : Except Stop Nat := do
  let la ← fetchLinear s i
  translate s .fetch (s.userAccess false) la

/-- Up to `n` instruction bytes from byte `i` on, and why the bytes end if they end early. -/
def fetchFrom (s : State) : Nat → Nat → List Byte × Option Stop
  | 0, _ => ([], none)
  | n + 1, i =>
    match fetchPhysical s i with
    | .error x => ([], some x)
    | .ok pa => (s.mem.read pa :: (fetchFrom s n (i + 1)).1, (fetchFrom s n (i + 1)).2)

/-- What the decoder looks at besides the bytes (30_encoding R142). -/
def decodeCtx (s : State) : DecodeCtx := ⟨s.in64, s.segs.csD⟩

/-- NextRIP of an instruction of `len` bytes: 32 bits wide outside 64-bit mode (10_state R25; log 50). -/
def nextRipOf (s : State) (len : Nat) : QWord :=
  let r := s.rip + BitVec.ofNat 64 len
  if s.in64 then r else (r.setWidth 32).setWidth 64

/-- The state in which an instruction of `len` bytes executes. -/
def State.withNext (s : State) (len : Nat) : State := { s with nextRip := nextRipOf s len }

/-- What stands at RIP. -/
inductive Fetched where
  | instr (i : Instr) (len : Nat)
  | nop (len : Nat)
  | narrow (i : Instr)
  | stop (x : Stop)
  deriving DecidableEq, Repr

/-- How a refusal of the decoder stops the fetch. -/
def decodeStop : DecodeRefusal → Stop
  | .outsideSpec => .refuse .outsideSpec
  | .evex => .refuse .evex
  | .addr16 => .refuse .addr16
  | .severalMandatory => .refuse .severalMandatory
  | .rexMisplaced => .refuse .rexMisplaced

/-- The outcome of an instruction with 16-bit addressing, from its outcome with a placeholder operand: #UD and #NM come
before its address is looked at and stand; else it is refused (30_encoding R131, 60 R484 item 1). -/
def narrowOutcome (o : Host.Outcome State Fault Refusal) : Host.Outcome State Fault Refusal :=
  match o with
  | .fault (.exception .ud code rip t) => .fault (.exception .ud code rip t)
  | .fault (.exception .nm code rip t) => .fault (.exception .nm code rip t)
  | _ => .refused .addr16

/-- Fetch and decode: an instruction that does not end within 15 bytes is #GP(0) (30_encoding R130), one whose bytes
cannot all be fetched takes the fault of the first such byte. -/
def fetchDecode (s : State) : Fetched :=
  let f := fetchFrom s 15 0
  match decode (decodeCtx s) f.1 with
  | .instr i len => .instr i len
  | .nop len => .nop len
  | .registerHint len => if s.platform.registerHintUd then .stop ud else .nop len
  | .narrow i => .narrow i
  | .undefined => .stop ud
  | .incomplete => .stop (f.2.getD gp0)
  | .refused why => .stop (decodeStop why)

/-- `s` with bytes stored where the fetch of its next instruction looks, in 64-bit mode with paging and protection on
(70_reset R584), active, not at a wrapped RIP, and undisturbed. -/
def placeBytes (s : State) (bs : List Byte) : State :=
  let t := { s with
    mode := .long64
    cr0 := s.cr0 ||| 0x80000001
    ripWrapped := false
    matched := []
    activity := .active
    env := { s.env with events := [] :: s.env.events, raoPicks := [] :: s.env.raoPicks } }
  let put (m : Memory) (ib : Byte × Nat) : Memory :=
    match fetchPhysical t ib.2 with
    | .ok pa => m.write pa ib.1
    | .error _ => m
  { t with mem := bs.zipIdx.foldl put s.mem }

end Sys2Proof.Machine
end

