-- ==== Sys2Proof/Machine/Step.lean ====
section
/-! DEFINITION. One step: the boundary, then, if the processor is active, the instruction at RIP (00_scope R13). -/

namespace Sys2Proof.Machine

/-- Run what stands at RIP. The data breakpoints that an instruction matched are kept for the next boundary (60 R565). -/
def runFetched (s : State) : Host.Outcome State Fault Refusal :=
  match fetchDecode s with
  | .instr i len => noteMatches i (s.withNext len) (exec i (s.withNext len))
  | .narrow i => narrowOutcome (exec i s)
  | .nop len => .next (s.withNext len).retire
  | .stop x => raise x s

/-- One step (00_scope R13; 60 R503: a waiting processor executes nothing). -/
def step (s : State) : Host.Outcome State Fault Refusal :=
  match boundary s with
  | .error f => .fault f
  | .ok t => if t.activity = .active then runFetched t else .next t

/-- `s` with an opcode-table word where the next step fetches (log 4). -/
def State.withFetchWord (s : State) (nbits w : Nat) : State := placeBytes s (tableBytes nbits w)

end Sys2Proof.Machine
end

