-- ==== Sys2Proof/Safety.lean ====
section
/-! DEFINITION. What a run keeps and what an instruction may change, in the terms the statements use. -/

namespace Sys2Proof.Machine

/-! ## Invariant -/

/-- Bit 1 of RFLAGS reads 1, and its reserved bits 3, 5, 15 and 63:22 read 0 (10_state R26). -/
def rflagsLegal (f : QWord) : Bool := (f &&& 0xFFFFFFFFFFC0802A) == 2

/-- Memory, the MSRs and the key tables are in canonical form. -/
def storesWf (s : State) : Bool :=
  s.mem.wf && Store.wf 0 s.msrs && Store.wf KeyEntry.unset s.tmeKeys && Store.wf KeyEntry.unset s.tseKeys

/-- 64-bit mode implies paging enabled (70_reset R584 premise 1). -/
def pagedIn64 (s : State) : Prop := s.in64 = true → s.cr0.getLsbD 31 = true

/-- The invariant every step keeps: canonical stores, legal RFLAGS, a user deadline with bits 5:0 zero, paging in 64-bit
mode (10_state R26, R67; 70_reset R584). -/
def State.Inv (s : State) : Prop :=
  storesWf s = true ∧ rflagsLegal s.rflags = true ∧ s.userTimer.deadline &&& 0x3F = 0 ∧ pagedIn64 s

/-- The launch premises of 70_reset R584. (1) is this predicate: the invariant, which has paging in 64-bit mode, and a
canonical RIP that has not wrapped. The others hold by construction: (2) a fetch reads memory through `Translate` as it
stands, (3) `cpuidQuery` follows the state, (4) an MSR outside `MSR_SET` faults, (5) the oracles are fields of `platform`
and `env`. -/
def State.launchReady (s : State) : Prop :=
  s.Inv ∧ (s.in64 = true → s.canonical s.rip = true) ∧ s.ripWrapped = false

/-- What no instruction and no event changes: mode, CPL, VMX operation, SMM, enclave mode (60 R500). -/
def sameMode (s t : State) : Prop :=
  t.mode = s.mode ∧ t.cpl = s.cpl ∧ t.vmx = s.vmx ∧ t.smm = s.smm ∧ t.enclave = s.enclave

/-! ## Frames -/

/-- Every byte of memory reads as before. -/
def sameMemory (s t : State) : Prop := ∀ pa, t.mem.read pa = s.mem.read pa

/-- Every byte of memory outside the addresses given reads as before. -/
def sameMemoryBut (s t : State) (pas : List Nat) : Prop := ∀ pa, pa ∉ pas → t.mem.read pa = s.mem.read pa

/-- Every general register but those given is unchanged. -/
def sameRegsBut (s t : State) (rs : List RegNum) : Prop := ∀ r, r ∉ rs → t.reg r = s.reg r

/-- Every vector register but the one given is unchanged. -/
def sameVregsBut (s t : State) (d : RegNum) : Prop := ∀ r, r ≠ d → t.vreg r = s.vreg r

/-- RIP is at the next instruction, and every component outside general and vector registers, RFLAGS, memory, the
monitor and the queue of remote atomic updates is unchanged; the counter of retired instructions goes on
(modulo 2^64: log 19). -/
def completesPlain (s t : State) : Prop :=
  t.rip = s.nextRip ∧ t.ripWrapped = s.nextWraps ∧
    t.fixedCtr0 = (if s.pmuRunning then s.fixedCtr0 + 1 else s.fixedCtr0) ∧
    { t with
      gpr := s.gpr, vregs := s.vregs, rflags := s.rflags, mem := s.mem, monitor := s.monitor, rao := s.rao
      rip := s.rip, ripWrapped := s.ripWrapped, fixedCtr0 := s.fixedCtr0 } = s

/-- The frame of a vector instruction: nothing changes but its destination register (and RIP, and the counter of
retired instructions). -/
def onlyVreg (s t : State) (d : RegNum) : Prop :=
  completesPlain s t ∧ sameVregsBut s t d ∧ sameRegsBut s t [] ∧ t.rflags = s.rflags ∧ sameMemory s t ∧
    t.monitor = s.monitor ∧ t.rao = s.rao

/-- The frame of an instruction that writes general registers only. -/
def onlyRegs (s t : State) (rs : List RegNum) : Prop :=
  completesPlain s t ∧ sameRegsBut s t rs ∧ t.vregs = s.vregs ∧ t.rflags = s.rflags ∧ sameMemory s t ∧
    t.monitor = s.monitor ∧ t.rao = s.rao

/-- The frame of an instruction that writes the MSR at address `a`: of the registers only those given, of the MSRs only that
one, of the components with an address of their own only its own. A serializing MSR has the queued remote atomic updates
performed first (44 R298). -/
def onlyMsr (s t : State) (a : Nat) (rs : List RegNum) : Prop :=
  let r := if msrSerializing s a then raoDrain s else s
  t.rip = s.nextRip ∧ t.ripWrapped = s.nextWraps ∧ sameRegsBut s t rs ∧ t.vregs = s.vregs ∧ t.rflags = s.rflags ∧
    sameMemory r t ∧ t.monitor = r.monitor ∧ t.rao = r.rao ∧
    (∀ b, b ≠ canonMsr s a → Store.get 0 b t.msrs = Store.get 0 b s.msrs) ∧
    (canonMsr s a ≠ 0x10 → t.tsc = s.tsc) ∧ (canonMsr s a ≠ 0x1B00 → t.userTimer = s.userTimer) ∧
    t.userTimer.pending = s.userTimer.pending ∧ (canonMsr s a ≠ 0x6E0 → t.guestTimer = s.guestTimer) ∧
    { t.guestTimer with deadline := s.guestTimer.deadline, shadow := s.guestTimer.shadow } = s.guestTimer ∧
    (canonMsr s a ≠ 0x1980 → t.fixedCtr0 = (if s.pmuRunning then s.fixedCtr0 + 1 else s.fixedCtr0)) ∧
    { t with
      gpr := s.gpr, rip := s.rip, ripWrapped := s.ripWrapped, mem := s.mem, monitor := s.monitor, rao := s.rao
      msrs := s.msrs, tsc := s.tsc, userTimer := s.userTimer, guestTimer := s.guestTimer
      fixedCtr0 := s.fixedCtr0 } = s

/-- The frame of PCONFIG apart from RAX and ZF: the other status flags are clear, and nothing else changes but
the key tables and the environment's choices of lock and entropy, with the count of drawn values (43 R261). -/
def keyFrame (s t : State) : Prop :=
  sameRegsBut s t [rax] ∧ t.vregs = s.vregs ∧ t.rflags &&& ~~~0x40 = s.rflags &&& ~~~0x8D5 ∧ sameMemory s t ∧
    t.monitor = s.monitor ∧ t.rao = s.rao ∧
    { t.env with lockBusy := s.env.lockBusy, entropyShort := s.env.entropyShort } = s.env ∧
    completesPlain s { t with tmeKeys := s.tmeKeys, tseKeys := s.tseKeys, env := s.env, draws := s.draws }

/-- PCONFIG completes with a failure code: ZF = 1, RAX is the code, no key is programmed (43 R261, R263). -/
def keyFailed (s t : State) (code : QWord) : Prop :=
  t.reg rax = code ∧ t.rflags.getLsbD 6 = true ∧ t.tmeKeys = s.tmeKeys ∧ t.tseKeys = s.tseKeys ∧ keyFrame s t

/-- PCONFIG completes with success: ZF = 0, RAX = 0 (43 R261). -/
def keysWritten (s t : State) : Prop := t.reg rax = 0 ∧ t.rflags.getLsbD 6 = false ∧ keyFrame s t

/-- The enables of a VEX vector instruction with feature flags `fs` (60 R486). -/
def vexReady (s : State) (fs : List Feature) : Prop :=
  (∀ f ∈ fs, enumerated s f = true) ∧ s.avxEnabled = true ∧ s.mode ≠ .real ∧ s.mode ≠ .v86 ∧
    s.taskSwitched = false

/-! ## Kinds of instructions -/

/-- The instruction is CMPccXADD with condition `c`, 64-bit if `wide` (42 R232). -/
def cmpccInstr (c : Cond) (wide : Bool) (m : MemOp) (a b : RegNum) : Instr :=
  match c, wide with
  | .o, false => .cmpoxadd32 m a b
  | .o, true => .cmpoxadd64 m a b
  | .no, false => .cmpnoxadd32 m a b
  | .no, true => .cmpnoxadd64 m a b
  | .b, false => .cmpbxadd32 m a b
  | .b, true => .cmpbxadd64 m a b
  | .nb, false => .cmpnbxadd32 m a b
  | .nb, true => .cmpnbxadd64 m a b
  | .z, false => .cmpzxadd32 m a b
  | .z, true => .cmpzxadd64 m a b
  | .nz, false => .cmpnzxadd32 m a b
  | .nz, true => .cmpnzxadd64 m a b
  | .be, false => .cmpbexadd32 m a b
  | .be, true => .cmpbexadd64 m a b
  | .nbe, false => .cmpnbexadd32 m a b
  | .nbe, true => .cmpnbexadd64 m a b
  | .s, false => .cmpsxadd32 m a b
  | .s, true => .cmpsxadd64 m a b
  | .ns, false => .cmpnsxadd32 m a b
  | .ns, true => .cmpnsxadd64 m a b
  | .p, false => .cmppxadd32 m a b
  | .p, true => .cmppxadd64 m a b
  | .np, false => .cmpnpxadd32 m a b
  | .np, true => .cmpnpxadd64 m a b
  | .l, false => .cmplxadd32 m a b
  | .l, true => .cmplxadd64 m a b
  | .nl, false => .cmpnlxadd32 m a b
  | .nl, true => .cmpnlxadd64 m a b
  | .le, false => .cmplexadd32 m a b
  | .le, true => .cmplexadd64 m a b
  | .nle, false => .cmpnlexadd32 m a b
  | .nle, true => .cmpnlexadd64 m a b

/-- The instruction is one of the CMPccXADD. -/
def isCmpcc (i : Instr) : Prop := ∃ c wide m a b, i = cmpccInstr c wide m a b

/-- The instructions that write flags (10_state R26). -/
def writesFlags (i : Instr) : Prop := isCmpcc i ∨ i = .uiret ∨ i = .pbndkb ∨ i = .pconfig

/-- The instruction is UWRMSR. -/
def isUwrmsr (i : Instr) : Prop := (∃ a b, i = .uwrmsrReg a b) ∨ ∃ imm b, i = .uwrmsrImm imm b

/-- No MSR of the platform is serializing to write (00_scope R5). -/
def noSerializingMsr (s : State) : Prop := ∀ d ∈ s.platform.msrSet, d.serializing = false

/-- The instructions that store to memory, or perform queued stores. -/
def storesMemory (i : Instr) : Prop := isCmpcc i ∨ i = .pbndkb ∨ i = .rdmsrlist ∨ i = .cpuid

/-- The instructions that write MSRs: a serializing MSR makes them perform queued stores too (44 R298). -/
def writesMsr (i : Instr) : Prop := i = .wrmsrns ∨ i = .wrmsrlist ∨ isUwrmsr i

/-- The remote atomic instruction with a function and a width, 64-bit if `wide` (41_rao R212 to R215). -/
def raoInstr (op : RaoOp) (wide : Bool) (m : MemOp) (r : RegNum) : Instr :=
  match op, wide with
  | .add, false => .aadd32 m r
  | .add, true => .aadd64 m r
  | .bitAnd, false => .aand32 m r
  | .bitAnd, true => .aand64 m r
  | .bitOr, false => .aor32 m r
  | .bitOr, true => .aor64 m r
  | .bitXor, false => .axor32 m r
  | .bitXor, true => .axor64 m r

/-- The width in bytes of a 32-bit or 64-bit form. -/
def formBytes (wide : Bool) : Nat := if wide then 8 else 4

/-- The low 32 or all 64 bits of a register, as a number. -/
def regNum (s : State) (wide : Bool) (r : RegNum) : Nat := (s.reg r).toNat % 2 ^ (8 * formBytes wide)

/-- One doubleword of a dot product from `n` products (46 R351, R353, R360): the exact sum, added with one
saturation or none. -/
def dotValue {w : Nat} (s1 s2 : Sign) (sat : Bool) (old : DWord) (a b : Nat → BitVec w) (n : Nat) : DWord :=
  let p : Int := ((List.range n).map fun k => s1.ext (a k) * s2.ext (b k)).sum
  if sat then
    if s1 = .unsigned ∧ s2 = .unsigned then BitVec.ofInt 32 (min (old.toNat + p) (2 ^ 32 - 1))
    else BitVec.ofInt 32 (max (-2 ^ 31) (min (old.toInt + p) (2 ^ 31 - 1)))
  else BitVec.ofInt 32 (old.toNat + p)

end Sys2Proof.Machine
end

