-- ==== Sys2Proof/Certificates/Slice0/Obligations.lean ====
section
/-! DEFINITION. The statements for the provers. Each docstring names the rules of spec/ it rests on. -/

open Sys2Proof Sys2Proof.Machine

/-! ## Encoding -/

/-- Decoding the encoding of any well-formed instruction, whatever bytes follow it, gives that instruction and the
length of its encoding, in 64-bit mode (30_encoding R130 to R157). -/
def Obligations.DecodeEncodeAgree : Prop :=
  ∀ (i : Instr) (d32 : Bool) (rest : List Byte), i.wf = true →
    decode ⟨true, d32⟩ (encode i ++ rest) = .instr i (encode i).length

/-- Whatever the bytes and the mode, an instruction the decoder answers is well-formed, at least one byte long and no
longer than the bytes (30_encoding R130, R137, R144). -/
def Obligations.DecodedIsWellFormed : Prop :=
  ∀ (c : DecodeCtx) (bs : List Byte) (i : Instr) (n : Nat), decode c bs = .instr i n →
    i.wf = true ∧ 1 ≤ n ∧ n ≤ bs.length

/-- Bytes that start with the LOCK byte F0 are never an instruction of the table (30_encoding R132). -/
def Obligations.LockPrefixNeverRuns : Prop :=
  ∀ (c : DecodeCtx) (bs : List Byte) (i : Instr) (n : Nat), decode c (0xF0 :: bs) ≠ .instr i n

/-- Some words written out from the encodings: AADD [RBX],EAX; CMPZXADD [RDX],ESI,EDI; URDMSR RAX,1B00H;
VPDPBSUD xmm1,xmm2,xmm3; TDPFP16PS tmm0,tmm1,tmm2; PREFETCHIT0 [RIP+1000H]; UIRET (30_encoding R151 to R157). -/
def Obligations.WordsDecode : Prop :=
  decode ⟨true, true⟩ [0x0F, 0x38, 0xFC, 0x03] = .instr (.aadd32 ⟨none, false, .sib (some 3) none 0 0⟩ 0) 4 ∧
  decode ⟨true, true⟩ [0xC4, 0xE2, 0x41, 0xE4, 0x32] =
    .instr (.cmpzxadd32 ⟨none, false, .sib (some 2) none 0 0⟩ 6 7) 5 ∧
  decode ⟨true, true⟩ [0xC4, 0xE7, 0x7B, 0xF8, 0xC0, 0, 0x1B, 0, 0] = .instr (.urdmsrImm 0 0x1B00) 9 ∧
  decode ⟨true, true⟩ [0xC4, 0xE2, 0x6A, 0x50, 0xCB] = .instr (.vpdpbsud128 1 2 (.reg 3)) 5 ∧
  decode ⟨true, true⟩ [0xC4, 0xE2, 0x6B, 0x5C, 0xC1] = .instr (.tdpfp16ps 0 1 2) 5 ∧
  decode ⟨true, true⟩ [0x0F, 0x18, 0x3D, 0, 0x10, 0, 0] =
    .instr (.prefetchit0 ⟨none, false, .ripRel 0x1000⟩) 7 ∧
  decode ⟨true, true⟩ [0xF3, 0x0F, 0x01, 0xEC] = .instr .uiret 4

/-! ## The step -/

/-- When nothing stops the boundary: a waiting processor executes nothing, and an active one whose fetched bytes decode
to a well-formed instruction runs that instruction's meaning, with NextRIP set past its bytes; a next state keeps the data
breakpoints that the instruction matched for the next boundary, and changes in nothing else (00_scope R13, 10_state R25, 60
R503). Which accesses match a data breakpoint, and that the matches are noted when the instruction ends and taken at the
next boundary, are the model's choices (log 54): 60 R565 only says that a match may be pended. -/
def Obligations.StepRunsDecodedInstruction : Prop :=
  ∀ s t : State, boundary s = .ok t →
    (t.activity ≠ .active → step s = .next t) ∧
    (t.activity = .active → ∀ (i : Instr) (n : Nat) (u : State),
      decode (decodeCtx t) (fetchFrom t 15 0).1 = .instr i n → i.wf = true → u = { t with nextRip := nextRipOf t n } →
      (∀ v, exec i u = .next v → step s = .next { v with matched := dataMatches u v i }) ∧
      (∀ f, exec i u = .fault f → step s = .fault f) ∧ ∀ x, exec i u = .refused x → step s = .refused x)

/-- Every step from a state that meets the invariant gives a state that meets it: memory, MSRs and key tables stay in
canonical form, RFLAGS stays legal, bits 5:0 of the user deadline stay 0, paging stays on in 64-bit mode (10_state R26,
R67; 20_memory R81; 70_reset R584). -/
def Obligations.StepKeepsInvariant : Prop :=
  ∀ s t : State, s.Inv → step s = .next t → t.Inv

/-- The state after reset meets the invariant. It rests on reset values that are the model's choice, since the spec gives
none (70_reset R580): RFLAGS = 2 and a user deadline of 0 (log 1, PRESUMED), the MSRs and the key tables (log 2, DESIGN
CHOICE). -/
def Obligations.ResetMeetsInvariant : Prop := State.reset.Inv

/-- After reset: TILECFG and the tiles are in the INIT state (70 R582) and every IA32_PMC_GPx_CFG_B is 0 (70 R580,
10_state R64). The other clauses are the model's choice (log 1, PRESUMED; log 2, DESIGN CHOICE): real-address mode at CPL
0, RIP FFF0H, no key programmed, no timer armed (the user deadline, the guest deadline and IA32_TSC_DEADLINE are 0). -/
def Obligations.ResetValues : Prop :=
  State.reset.tilesConfigured = false ∧ State.reset.tilecfg.startRow = 0 ∧
  (∀ t : RegNum, State.reset.tileRows t = 0 ∧ State.reset.tileColsb t = 0) ∧
  (∀ t : RegNum, ∀ r : Nat, tileRow (State.reset.tile t) r = 0) ∧
  (∀ n < 8, msrStored State.reset (0x1902 + 4 * n) = 0) ∧
  State.reset.mode = .real ∧ State.reset.cpl = 0 ∧ State.reset.rip = 0xFFF0 ∧
  State.reset.tmeKeys = [] ∧ State.reset.tseKeys = [] ∧ State.reset.userTimer.deadline = 0 ∧
  State.reset.guestTimer.deadline = 0 ∧ msrStored State.reset 0x6E0 = 0

/-- No boundary and no step changes mode, CPL, VMX operation, SMM or enclave mode (60 R500), and over neither does the TSC
decrease (70 R600). That a write of the TSC below its present value faults, so that no instruction lowers it, is the
model's choice (log 10). -/
def Obligations.StepKeepsModesAndTsc : Prop :=
  ∀ s t : State, boundary s = .ok t ∨ step s = .next t → sameMode s t ∧ s.tsc.toNat ≤ t.tsc.toNat

/-! ## What instructions may change -/

/-- Only CMPccXADD, UIRET, PBNDKB and PCONFIG write RFLAGS (10_state R26). Only CMPccXADD, PBNDKB, RDMSRLIST and CPUID
(which performs queued updates) change memory, and so may a write of an MSR that the platform calls serializing, which
performs them too; a remote atomic operation changes memory later (files 41 to 49). -/
def Obligations.FlagsAndMemoryWrittenOnlyBy : Prop :=
  ∀ (i : Instr) (s t : State), exec i s = .next t →
    (¬ writesFlags i → t.rflags = s.rflags) ∧
    (¬ storesMemory i → ¬ writesMsr i ∨ noSerializingMsr s → sameMemory s t)

/-- Of the instructions only PCONFIG writes the key tables, and at a boundary only the entry of a KeyID changes that PCONFIG
accepts: another processor has programmed it (10_state R70, 60 R502). Which KeyIDs PCONFIG accepts is log 21, and that
another processor's PCONFIG is an event of the environment is log 8. -/
def Obligations.KeyTablesWrittenOnlyByPconfig : Prop :=
  (∀ (i : Instr) (s t : State), exec i s = .next t → i ≠ .pconfig →
    t.tmeKeys = s.tmeKeys ∧ t.tseKeys = s.tseKeys) ∧
  ∀ (s t : State) (k : Nat), boundary s = .ok t →
    (Store.get KeyEntry.unset k t.tmeKeys ≠ Store.get KeyEntry.unset k s.tmeKeys → k ≠ 0 ∧ k ≤ tmeMaxKey s) ∧
    (Store.get KeyEntry.unset k t.tseKeys ≠ Store.get KeyEntry.unset k s.tseKeys → k ≠ 0 ∧ k < tseMaxKeys s)

/-- No instruction writes a control register, XCR0, a debug register, a segment register, MXCSR, the VMCS or the
processor's parameters: no rule of files 41 to 49 names one as written. -/
def Obligations.ControlStateNeverWritten : Prop :=
  ∀ (i : Instr) (s t : State), exec i s = .next t →
    t.cr0 = s.cr0 ∧ t.cr2 = s.cr2 ∧ t.cr3 = s.cr3 ∧ t.cr4 = s.cr4 ∧ t.xcr0 = s.xcr0 ∧ t.dr0 = s.dr0 ∧ t.dr1 = s.dr1 ∧
      t.dr2 = s.dr2 ∧ t.dr3 = s.dr3 ∧ t.dr7 = s.dr7 ∧ t.segs = s.segs ∧ t.mxcsr = s.mxcsr ∧ t.vmcs = s.vmcs ∧
      t.platform = s.platform

/-- At a CPL other than 0, outside real-address mode, an instruction other than UWRMSR changes no MSR, not the TSC, no
timer and no key table, and does not make the processor wait (60 R501); but UIRET moves the last-branch records where
their recording is on (60 R557; log 55). -/
def Obligations.PrivilegedStateKept : Prop :=
  ∀ (i : Instr) (s t : State), exec i s = .next t → s.cpl ≠ 0 → s.mode ≠ .real → ¬ isUwrmsr i →
    (¬ (i = .uiret ∧ lbrRecords s = true) → t.msrs = s.msrs) ∧
    (∀ a, a < 0x1200 ∨ 0x1220 ≤ a → Store.get 0 a t.msrs = Store.get 0 a s.msrs) ∧
    t.tsc = s.tsc ∧ t.userTimer = s.userTimer ∧ t.uirr = s.uirr ∧ t.guestTimer = s.guestTimer ∧
    t.tmeKeys = s.tmeKeys ∧ t.tseKeys = s.tseKeys ∧ t.activity = s.activity

/-- An instruction that raises an exception leaves RIP at itself and the state as it was, but for CR2; RDMSRLIST and
WRMSRLIST apart (60 R483). -/
def Obligations.ExceptionLeavesState : Prop :=
  ∀ (i : Instr) (s t : State) (e : Exc) (code : DWord) (rip : QWord), exec i s = .fault (.exception e code rip t) →
    i ≠ .rdmsrlist → i ≠ .wrmsrlist → rip = s.rip ∧ { t with cr2 := s.cr2 } = s

/-- RDMSRLIST and WRMSRLIST complete in parts. Whatever stops them, an exception, a VM exit (its reason is 78 or 79, or 48
for an EPT violation) or a missing physical address: RIP is at the instruction, only RCX among the general registers
changes, and it has lost the bits below some number, those of the entries completed, and no other. RDMSRLIST then has
changed memory only where a completed entry is stored, and no MSR but IA32_SPEC_CTRL, which a VM exit may load; WRMSRLIST
has changed none if no entry is completed. A next state is either past the instruction with RCX = 0, or at it, with a
bit of RCX lost, where the environment has an event for the boundary after that entry, or a data breakpoint matched one of
its accesses. Such a match ends the step after its entry, with RIP at the instruction and no later entry completed (44
R291, R294, R296, R297; 60 R565; 70 R601 f). The number 48 is PRESUMED (log 36); that IA32_SPEC_CTRL changes in the state
a VM exit leaves is log 49; which accesses a breakpoint matches is log 54. -/
def Obligations.ListPartialCompletion : Prop :=
  ∀ (i : Instr) (s u : State), (i = .rdmsrlist ∨ i = .wrmsrlist) →
    (∃ f, exec i s = .fault f ∧ f.state = u) ∨ exec i s = .next u →
    sameRegsBut s u [rcx] ∧
    (∃ m, ∀ k < 64, (u.reg rcx).getLsbD k = ((s.reg rcx).getLsbD k && decide (m ≤ k))) ∧
    (i = .rdmsrlist →
      (∀ a, a ≠ 0x48 → Store.get 0 a u.msrs = Store.get 0 a s.msrs) ∧
      ∀ pa, u.mem.read pa ≠ s.mem.read pa →
        ∃ k < 64, (s.reg rcx).getLsbD k = true ∧ (u.reg rcx).getLsbD k = false ∧
          ∃ pas, access s (tableEntry s rdi k) 8 .write false 1 gp0 = .ok pas ∧ pa ∈ pas) ∧
    (u.reg rcx = s.reg rcx → sameMemory s u ∧ ∀ a, a ≠ 0x48 → Store.get 0 a u.msrs = Store.get 0 a s.msrs) ∧
    (∀ f, exec i s = .fault f → u.rip = s.rip) ∧
    (∀ e code rip, exec i s = .fault (.exception e code rip u) → rip = s.rip) ∧
    (∀ reason q len info, exec i s = .fault (.vmExit reason q len info u) →
      reason = 48 ∨ reason = (if i = .rdmsrlist then 78 else 79)) ∧
    (exec i s = .next u →
      (u.rip = s.nextRip ∧ u.reg rcx = 0) ∨
      (u.rip = s.rip ∧ u.reg rcx ≠ s.reg rcx ∧ (nextChoice [] u.env.events ≠ [] ∨ dataMatches s u i ≠ []))) ∧
    (∀ k < 64, (s.reg rcx).getLsbD k = true → (u.reg rcx).getLsbD k = false →
      anyMatch s (entryAccesses s (decide (i = .rdmsrlist)) k) = true →
      exec i s = .next u ∧ u.rip = s.rip ∧ ∀ j, k < j → (u.reg rcx).getLsbD j = (s.reg rcx).getLsbD j)

/-! ## Privilege and enables -/

/-- At a CPL other than 0, with the feature enumerated: PBNDKB, PCONFIG and MWAIT raise #UD; RDMSRLIST, WRMSRLIST (in
64-bit mode, not in a guest) and WRMSRNS (outside real-address mode) raise #GP(0); the state is unchanged
(60 R501, 43 R258, R270, 44 R295, R301, 49 R476). -/
def Obligations.PrivilegeViolations : Prop :=
  ∀ s : State, s.cpl ≠ 0 →
    exec .pbndkb s = .fault (.exception .ud 0 s.rip s) ∧
    exec .pconfig s = .fault (.exception .ud 0 s.rip s) ∧
    exec .mwait s = .fault (.exception .ud 0 s.rip s) ∧
    (s.in64 = true → s.vmx ≠ .nonRoot → enumerated s .msrList = true →
      exec .rdmsrlist s = .fault (.exception .gp 0 s.rip s) ∧ exec .wrmsrlist s = .fault (.exception .gp 0 s.rip s)) ∧
    (s.mode ≠ .real → enumerated s .wrmsrns = true → exec .wrmsrns s = .fault (.exception .gp 0 s.rip s))

/-- Every VEX vector instruction raises #UD when the XSAVE state is not enabled, and #NM when it is, AVX and the
instruction's feature are enumerated, the mode is 64-bit and CR0.TS = 1 (60 R486). That #NM comes before the faults of a
memory source is the model's choice (log 43). -/
def Obligations.VectorDisabled : Prop :=
  ∀ (i : Instr) (f : Feature) (d a r : RegNum) (b : RM) (m : MemOp) (imm : Byte) (s : State),
    (i, f) ∈
      [(Instr.vpdpbssd128 d a b, Feature.vnniInt8), (.vpdpbssd256 d a b, .vnniInt8),
        (.vpdpbssds128 d a b, .vnniInt8), (.vpdpbssds256 d a b, .vnniInt8), (.vpdpbsud128 d a b, .vnniInt8),
        (.vpdpbsud256 d a b, .vnniInt8), (.vpdpbsuds128 d a b, .vnniInt8), (.vpdpbsuds256 d a b, .vnniInt8),
        (.vpdpbuud128 d a b, .vnniInt8), (.vpdpbuud256 d a b, .vnniInt8), (.vpdpbuuds128 d a b, .vnniInt8),
        (.vpdpbuuds256 d a b, .vnniInt8), (.vpdpwsud128 d a b, .vnniInt16), (.vpdpwsud256 d a b, .vnniInt16),
        (.vpdpwsuds128 d a b, .vnniInt16), (.vpdpwsuds256 d a b, .vnniInt16), (.vpdpwusd128 d a b, .vnniInt16),
        (.vpdpwusd256 d a b, .vnniInt16), (.vpdpwusds128 d a b, .vnniInt16), (.vpdpwusds256 d a b, .vnniInt16),
        (.vpdpwuud128 d a b, .vnniInt16), (.vpdpwuud256 d a b, .vnniInt16), (.vpdpwuuds128 d a b, .vnniInt16),
        (.vpdpwuuds256 d a b, .vnniInt16), (.vpmadd52huq128 d a b, .avxIfma), (.vpmadd52huq256 d a b, .avxIfma),
        (.vpmadd52luq128 d a b, .avxIfma), (.vpmadd52luq256 d a b, .avxIfma),
        (.vbcstnebf162ps128 d m, .avxNeConvert), (.vbcstnebf162ps256 d m, .avxNeConvert),
        (.vbcstnesh2ps128 d m, .avxNeConvert), (.vbcstnesh2ps256 d m, .avxNeConvert),
        (.vcvtneebf162ps128 d m, .avxNeConvert), (.vcvtneebf162ps256 d m, .avxNeConvert),
        (.vcvtneeph2ps128 d m, .avxNeConvert), (.vcvtneeph2ps256 d m, .avxNeConvert),
        (.vcvtneobf162ps128 d m, .avxNeConvert), (.vcvtneobf162ps256 d m, .avxNeConvert),
        (.vcvtneoph2ps128 d m, .avxNeConvert), (.vcvtneoph2ps256 d m, .avxNeConvert),
        (.vcvtneps2bf16128 d b, .avxNeConvert), (.vcvtneps2bf16256 d b, .avxNeConvert),
        (.vsha512rnds2 d a r, .sha512), (.vsha512msg1 d r, .sha512), (.vsha512msg2 d r, .sha512),
        (.vsm3msg1 d a b, .sm3), (.vsm3msg2 d a b, .sm3), (.vsm3rnds2 d a b imm, .sm3), (.vsm4key4128 d a b, .sm4),
        (.vsm4key4256 d a b, .sm4), (.vsm4rnds4128 d a b, .sm4), (.vsm4rnds4256 d a b, .sm4)] →
    (s.avxEnabled = false → exec i s = .fault (.exception .ud 0 s.rip s)) ∧
    (s.avxEnabled = true → enumerated s .avx = true → enumerated s f = true → s.in64 = true → s.taskSwitched = true →
      exec i s = .fault (.exception .nm 0 s.rip s))

/-- TILES_CONFIGURED is whether the palette of TILECFG is other than 0, and the AMX instructions raise #UD when it is
not 1 (48 R413). That they do so with CR0.TS = 1 too, #UD coming before #NM, is the model's choice (log 43). -/
def Obligations.UnconfiguredTilesRefused : Prop :=
  ∀ (i : RegNum → RegNum → RegNum → Instr) (d a b : RegNum) (s : State),
    i ∈ [Instr.tdpfp16ps, .tcmmimfp16ps, .tcmmrlfp16ps] →
    (s.tilesConfigured = true ↔ s.tilecfg.palette ≠ 0) ∧
    (s.tilesConfigured = false → exec (i d a b) s = .fault (.exception .ud 0 s.rip s))

/-! ## CPUID -/

/-- CPUID outside a guest completes: RAX, RBX, RCX, RDX hold the four results of the leaf in EAX and sub-leaf in ECX,
zero-extended; queued remote atomic updates are performed first; nothing else changes (40_cpuid R170, R171;
20_memory R123). That the updates are performed oldest first is the model's choice (log 9; 41_rao R218 fixes no
order). -/
def Obligations.CpuidResult : Prop :=
  ∀ s : State, s.vmx ≠ .nonRoot →
    ∃ t, exec .cpuid s = .next t ∧
      t.reg rax = ((cpuidQuery s (s.reg32 rax) (s.reg32 rcx)).eax).setWidth 64 ∧
      t.reg rbx = ((cpuidQuery s (s.reg32 rax) (s.reg32 rcx)).ebx).setWidth 64 ∧
      t.reg rcx = ((cpuidQuery s (s.reg32 rax) (s.reg32 rcx)).ecx).setWidth 64 ∧
      t.reg rdx = ((cpuidQuery s (s.reg32 rax) (s.reg32 rcx)).edx).setWidth 64 ∧
      sameRegsBut s t [rax, rbx, rcx, rdx] ∧ t.vregs = s.vregs ∧ t.rflags = s.rflags ∧
      t.mem = (raoDrain s).mem ∧ t.rao = [] ∧ t.monitor = (raoDrain s).monitor ∧ completesPlain s t

/-- CPUID clears the high 32 bits of RAX, RBX, RCX and RDX in all modes (40_cpuid R171). -/
def Obligations.CpuidClearsHighHalves : Prop :=
  ∀ (s t : State) (r : RegNum), exec .cpuid s = .next t → r ∈ [rax, rbx, rcx, rdx] → (t.reg r).toNat < 2 ^ 32

/-! ## Remote atomic operations -/

/-- AADD, AAND, AOR, AXOR complete when the feature is enumerated and the destination is accessible for a write,
naturally aligned and write-back memory: they queue their update, and change no register, flag or byte of memory
(41_rao R210, R212 to R217, R220). -/
def Obligations.RaoQueuesUpdate : Prop :=
  ∀ (op : RaoOp) (wide : Bool) (m : MemOp) (r : RegNum) (s : State) (la : QWord) (pa : Nat) (more : List Nat),
    enumerated s .raoInt = true →
    linearOf s (memPointer s m) (formBytes wide) = .ok la →
    access s (memPointer s m) (formBytes wide) .write false (formBytes wide) gp0 = .ok (pa :: more) →
    writeBack s (s.userAccess false) la (pa :: more) = true →
    ∃ t, exec (raoInstr op wide m r) s = .next t ∧
      t.rao = s.rao ++ [⟨op, pa, formBytes wide, BitVec.ofNat 64 (regNum s wide r)⟩] ∧
      sameRegsBut s t [] ∧ t.vregs = s.vregs ∧ t.rflags = s.rflags ∧ sameMemory s t ∧ t.monitor = s.monitor ∧
      completesPlain s t

/-- Performing a queued update writes the function of the old number and the source, modulo 2^(8n), to its `n` bytes
and leaves every other byte alone; performing every queued update performs each so, one after the other, empties the queue
and changes no byte that no update names. At a boundary the updates that the environment picks are performed so, each taken
out of the queue, and all of them when it says nothing more; a boundary without events changes memory and the queue in no
other way (41_rao R212 to R215, R217). The order, oldest first or as picked, is the model's choice (log 9). -/
def Obligations.RaoUpdatePerformed : Prop :=
  ∀ s : State, s.mem.wf = true →
    (∀ u : RaoUpdate, u.size ≤ 8 →
      leNat ((raoPerform s u).bytesAt (paRange u.pa u.size)) =
        (match u.op with
          | .add => leNat (s.bytesAt (paRange u.pa u.size)) + u.src.toNat
          | .bitAnd => leNat (s.bytesAt (paRange u.pa u.size)) &&& u.src.toNat
          | .bitOr => leNat (s.bytesAt (paRange u.pa u.size)) ||| u.src.toNat
          | .bitXor => leNat (s.bytesAt (paRange u.pa u.size)) ^^^ u.src.toNat) % 2 ^ (8 * u.size) ∧
      sameMemoryBut s (raoPerform s u) (paRange u.pa u.size)) ∧
    raoDrain s = { s.rao.foldl raoPerform s with rao := [] } ∧
    (∀ pa : Nat, (∀ u ∈ s.rao, pa ∉ paRange u.pa u.size) → (raoDrain s).mem.read pa = s.mem.read pa) ∧
    (s.env.raoPicks = [] → raoAgent s = raoDrain s) ∧
    (∀ picks rest, s.env.raoPicks = picks :: rest →
      raoAgent s = picks.foldl (fun t i =>
        match t.rao[i]? with
        | some u => { raoPerform t u with rao := t.rao.eraseIdx i }
        | none => t) { s with env := { s.env with raoPicks := rest } }) ∧
    (∀ t rest, s.env.events = [] :: rest → boundary s = .ok t →
      t.mem = (raoAgent s).mem ∧ t.rao = (raoAgent s).rao)

/-- Where a locked or remote atomic access faults. A misaligned destination, canonical and allowed by LASS: AADD, AAND,
AOR, AXOR raise #GP(0) whatever AC says; CMPccXADD raises #AC(0) under alignment checking (41_rao R216, 42 R235). An
access of CMPccXADD that is otherwise allowed: with UC-lock disable on and a byte that is not write-back, #GP(0) if
IA32_CORE_CAPABILITIES[4] = 1, else #AC(4) if CPUID enumerates that flavour (60 R510); with split-lock disable on, across
a cache line of write-back memory, #AC(0) (60 R511). The locked access does not occur. The model's choices here: the
alignment check comes before translation and UC-lock disable after it (log 25), UC-lock disable comes before split-lock
disable (log 33), one byte that is not write-back suffices (log 34). -/
def Obligations.LockedAccessFaults : Prop :=
  ∀ (op : RaoOp) (c : Cond) (wide : Bool) (m : MemOp) (a b : RegNum) (s : State) (la : QWord) (pas : List Nat),
    linearOf s (memPointer s m) (formBytes wide) = .ok la →
    (lassData s false la = true → la.toNat % formBytes wide ≠ 0 →
      (enumerated s .raoInt = true → exec (raoInstr op wide m a) s = .fault (.exception .gp 0 s.rip s)) ∧
      (enumerated s .cmpccxadd = true → s.in64 = true → s.avxEnabled = true → s.alignChecked = true →
        exec (cmpccInstr c wide m a b) s = .fault (.exception .ac 0 s.rip s))) ∧
    (enumerated s .cmpccxadd = true → s.in64 = true → s.avxEnabled = true →
      access s (memPointer s m) (formBytes wide) .write false (if s.alignChecked then formBytes wide else 1)
        (.exc .ac 0) = .ok pas →
      ((Store.get 0 0x33 s.msrs).getLsbD 28 = true → writeBack s (s.userAccess false) la pas = false →
        ((Store.get 0 0xCF s.msrs).getLsbD 4 = true →
          exec (cmpccInstr c wide m a b) s = .fault (.exception .gp 0 s.rip s)) ∧
        ((Store.get 0 0xCF s.msrs).getLsbD 4 = false → enumerated s .ucLockAc = true →
          exec (cmpccInstr c wide m a b) s = .fault (.exception .ac 4 s.rip s))) ∧
      ((Store.get 0 0x33 s.msrs).getLsbD 29 = true → (Store.get 0 0xCF s.msrs).getLsbD 5 = true →
        lineSize s < la.toNat % lineSize s + formBytes wide → writeBack s (s.userAccess false) la pas = true →
        exec (cmpccInstr c wide m a b) s = .fault (.exception .ac 0 s.rip s)))

/-! ## CMPccXADD -/

/-- Every CMPccXADD completes in 64-bit mode when enumerated and the locked access is allowed. With the queued remote
atomic updates performed first (oldest first: the model's choice, log 9): the second operand gets the old number,
zero-extended; memory gets old + third operand if the condition holds of the flags of (old - second operand), else the
old number; RFLAGS gets those flags; an armed monitor sees the store; nothing else changes (42 R230 to R236, 41_rao R218,
49 R472). -/
def Obligations.CmpccxaddResult : Prop :=
  ∀ (c : Cond) (wide : Bool) (m : MemOp) (a b : RegNum) (s : State) (pas : List Nat) (old : Nat) (f : Status),
    s.mem.wf = true → s.in64 = true → enumerated s .cmpccxadd = true → s.avxEnabled = true →
    lockedAccess s m (formBytes wide) = .ok pas →
    old = leNat ((raoDrain s).bytesAt pas) →
    f = cmpStatus (BitVec.ofNat (8 * formBytes wide) old) (BitVec.ofNat (8 * formBytes wide) (regNum s wide a)) →
    ∃ t, exec (cmpccInstr c wide m a b) s = .next t ∧
      (t.reg a).toNat = old ∧ sameRegsBut s t [a] ∧
      leNat (t.bytesAt pas) = (if c.holds f then (old + regNum s wide b) % 2 ^ (8 * formBytes wide) else old) ∧
      sameMemoryBut (raoDrain s) t pas ∧ t.rflags = withStatus s.rflags f ∧ t.vregs = s.vregs ∧ t.rao = [] ∧
      t.monitor = (raoDrain s).monitor.snoop pas ∧ completesPlain s t

/-- The conditions are the comparisons they are named for, of the memory number `x` with the register number `y`:
unsigned below, equal, signed less, overflow, sign, parity, and their complements; PF says that the low byte of `x - y`
has an even number of 1 bits, AF that its low four bits borrow (42 R232, R233, R237 to R252). -/
def Obligations.CompareConditions : Prop :=
  ∀ (w : Nat) (x y : BitVec w), 8 ≤ w →
    (Cond.holds (cmpStatus x y) .b = true ↔ x.toNat < y.toNat) ∧
    (Cond.holds (cmpStatus x y) .nb = true ↔ y.toNat ≤ x.toNat) ∧
    (Cond.holds (cmpStatus x y) .be = true ↔ x.toNat ≤ y.toNat) ∧
    (Cond.holds (cmpStatus x y) .nbe = true ↔ y.toNat < x.toNat) ∧
    (Cond.holds (cmpStatus x y) .z = true ↔ x = y) ∧
    (Cond.holds (cmpStatus x y) .nz = true ↔ x ≠ y) ∧
    (Cond.holds (cmpStatus x y) .l = true ↔ x.toInt < y.toInt) ∧
    (Cond.holds (cmpStatus x y) .nl = true ↔ y.toInt ≤ x.toInt) ∧
    (Cond.holds (cmpStatus x y) .le = true ↔ x.toInt ≤ y.toInt) ∧
    (Cond.holds (cmpStatus x y) .nle = true ↔ y.toInt < x.toInt) ∧
    (Cond.holds (cmpStatus x y) .s = true ↔ (x - y).msb = true) ∧
    (Cond.holds (cmpStatus x y) .ns = true ↔ (x - y).msb = false) ∧
    (Cond.holds (cmpStatus x y) .o = true ↔ x.toInt - y.toInt ≠ (x - y).toInt) ∧
    (Cond.holds (cmpStatus x y) .no = true ↔ x.toInt - y.toInt = (x - y).toInt) ∧
    (Cond.holds (cmpStatus x y) .p = true ↔ ((List.range 8).countP fun k => (x - y).getLsbD k) % 2 = 0) ∧
    (Cond.holds (cmpStatus x y) .np = true ↔ ((List.range 8).countP fun k => (x - y).getLsbD k) % 2 = 1) ∧
    ((cmpStatus x y).af = true ↔ (x.setWidth 4).toNat < (y.setWidth 4).toNat)

/-! ## PBNDKB and PCONFIG -/

/-- PBNDKB completes in 64-bit mode at CPL 0 on aligned, distinct, accessible structures with legal contents, an input MAC
and IV of zero (others have no meaning in the spec: 93 U10, log 22) and entropy at hand: it writes the output structure
for some random initialization vector, under the given keys if KEY_GENERATION_CTRL = 0 and the given keys exclusive-or
random ones if it is 1, clears RAX and the six status flags, and an armed monitor sees the store; nothing else changes but
the count of drawn values (43 R255 to R257, 49 R472; log 11). -/
def Obligations.PbndkbResult : Prop :=
  ∀ (s : State) (tmp : List Byte) (pas : List Nat),
    s.mem.wf = true → enumerated s .pbndkb = true → s.cpl = 0 → s.in64 = true →
    (s.reg rbx).toNat % 256 = 0 → (s.reg rcx).toNat % 256 = 0 → s.reg rbx ≠ s.reg rcx →
    memRead s (regPointer s rbx) 256 = .ok tmp → field tmp 160 1 ≤ 1 → bindReservedZero tmp = true →
    zeroBytes tmp 0 16 = true → zeroBytes tmp 24 12 = true →
    access s (regPointer s rcx) 256 .write false 1 gp0 = .ok pas → s.env.entropyShort = [] →
    ∃ t keys, ∃ n ≥ s.draws, exec .pbndkb s = .next t ∧
      t.bytesAt pas = bindOutput tmp ((Config.randomBits n).setWidth 96) keys ∧ sameMemoryBut s t pas ∧
      (field tmp 160 1 = 0 → keys = BitVec.ofNat 512 (field tmp 64 64)) ∧
      (field tmp 160 1 = 1 →
        ∃ k ≥ s.draws, k ≠ n ∧ keys = BitVec.ofNat 512 (field tmp 64 64) ^^^ Config.randomBits k) ∧
      t.reg rax = 0 ∧ sameRegsBut s t [rax] ∧ t.vregs = s.vregs ∧ t.rflags = s.rflags &&& ~~~0x8D5 ∧
      t.rao = s.rao ∧ t.monitor = s.monitor.snoop pas ∧ completesPlain s { t with draws := s.draws }

/-- The structure PBNDKB writes has 256 bytes: the IV in bytes 35:24, KEY_GENERATION_CTRL copied in byte 160, the tag of the
structure in bytes 15:0, the encrypted keys in bytes 127:64, and zeros elsewhere, the challenge in bytes 159:128 among
them. With the challenge put back it unwraps to the keys it was made from (43 R256, R257, R259, R267; 95 V32). -/
def Obligations.BindUnwrapsToSameKeys : Prop :=
  ∀ (tmp : List Byte) (iv : BitVec 96) (keys : BitVec 512) (out : List Byte), tmp.length = 256 →
    out = bindOutput tmp iv keys →
    out.length = 256 ∧ field out 24 12 = iv.toNat ∧ field out 160 1 = field tmp 160 1 ∧
    (∃ aad : BitVec 1408,
      field out 64 64 = (gcmEncrypt (wrappingKey tmp) iv aad keys).toNat ∧
      field out 0 16 = (Config.gcmTag (wrappingKey tmp) iv aad (gcmEncrypt (wrappingKey tmp) iv aad keys)).toNat) ∧
    zeroBytes out 16 8 = true ∧ zeroBytes out 36 28 = true ∧ zeroBytes out 128 32 = true ∧ zeroBytes out 161 95 = true ∧
    unwrap (out.take 128 ++ (tmp.drop 128).take 32 ++ out.drop 160) = some keys

/-- PCONFIG leaf 0 completes on a readable structure. An unknown command, a KeyID of 0 or above the maximum, missing entropy
or a taken lock: a failure with code 1, 3, 2 or 5. Otherwise the KeyID's entry of the TME-MK table, and no other, becomes:
the algorithm and the given keys (command 0), or the given keys exclusive-or two random ones (command 1); no key of its own
(command 2); no encryption (command 3); RAX and the six status flags are cleared (43 R261, R263, R264). That the maximum
is 0 before TME is activated is the model's reading (log 21), and so are the whole of the key fields, whatever the algorithm,
and the zeros of an entry without a key (log 45). An algorithm that is not exactly one enabled one is #GP(0). -/
def Obligations.PconfigProgramsTmeKey : Prop :=
  ∀ (s : State) (p : KeyProgram),
    storesWf s = true → enumerated s .pconfig = true → s.cpl = 0 → pconfigExits s 0 = false → s.reg32 rax = 0 →
    pconfigTarget s 1 = true → readKeyProgram s = .ok p →
    (3 < p.command → ∃ t, exec .pconfig s = .next t ∧ keyFailed s t 1) ∧
    (p.command ≤ 3 → p.keyId = 0 ∨ tmeMaxKey s < p.keyId → ∃ t, exec .pconfig s = .next t ∧ keyFailed s t 3) ∧
    (p.command ≤ 3 → p.keyId ≠ 0 → p.keyId ≤ tmeMaxKey s → algorithmLegal p.alg (tmeAlgorithms s) = false →
      exec .pconfig s = .fault (.exception .gp 0 s.rip s)) ∧
    (p.command ≤ 3 → p.keyId ≠ 0 → p.keyId ≤ tmeMaxKey s → algorithmLegal p.alg (tmeAlgorithms s) = true →
      (lockTaken s = true → ∃ t, exec .pconfig s = .next t ∧ keyFailed s t 5) ∧
      (lockTaken s = false → p.command = 1 → entropyShort s = true →
        ∃ t, exec .pconfig s = .next t ∧ keyFailed s t 2) ∧
      (lockTaken s = false → (p.command = 1 → s.env.entropyShort = []) →
        ∃ t entry, exec .pconfig s = .next t ∧ keysWritten s t ∧ t.tseKeys = s.tseKeys ∧
          Store.get KeyEntry.unset p.keyId t.tmeKeys = entry ∧
          (∀ k, k ≠ p.keyId → Store.get KeyEntry.unset k t.tmeKeys = Store.get KeyEntry.unset k s.tmeKeys) ∧
          (p.command = 0 → entry = ⟨.encrypt, p.alg, p.key1, p.key2⟩) ∧
          (p.command = 1 → ∃ j ≥ s.draws, ∃ k ≥ s.draws, j ≠ k ∧
            entry = ⟨.encrypt, p.alg, Config.randomBits j ^^^ p.key1, Config.randomBits k ^^^ p.key2⟩) ∧
          (p.command = 2 → entry = KeyEntry.unset) ∧ (p.command = 3 → entry = ⟨.noEncrypt, 0, 0, 0⟩)))

/-- PCONFIG leaves 1 and 2 complete on a readable structure. A KeyID of 0 or above the maximum, a taken lock, or in leaf 1 an
unknown command, in leaf 2 a structure whose tag is not the computed one: a failure with code 3, 5, 1 or 7. Otherwise the
KeyID's entry of the TSE table, and no other, becomes: in leaf 1 the algorithm and the low 256 bits of the given keys
(command 0) or no encryption (command 1); in leaf 2 the algorithm in RBX and the two halves of the unwrapped keys; RAX
and the six status flags are cleared. An algorithm that is not exactly one supported one is #GP(0) (43 R261, R263, R266,
R267). The model's choices here: that a KeyID of 0, or one at or above TSE_MAX_KEYS, gives code 3, and where that check and
that of the command stand (log 21); the zeros of a no-encrypt entry, that a key is the low 256 bits of its field, and that
leaf 2 ignores the other bits of RBX (log 45). -/
def Obligations.PconfigProgramsTseKey : Prop :=
  ∀ (s : State), storesWf s = true → enumerated s .pconfig = true → s.cpl = 0 → pconfigTarget s 2 = true →
    (∀ p : KeyProgram, s.reg32 rax = 1 → pconfigExits s 1 = false → readKeyProgram s = .ok p →
      (1 < p.command → ∃ t, exec .pconfig s = .next t ∧ keyFailed s t 1) ∧
      (p.command ≤ 1 → p.keyId = 0 ∨ tseMaxKeys s ≤ p.keyId →
        ∃ t, exec .pconfig s = .next t ∧ keyFailed s t 3) ∧
      (p.command ≤ 1 → p.keyId ≠ 0 → p.keyId < tseMaxKeys s →
        (algorithmLegal p.alg (tseAlgorithms s) = false → exec .pconfig s = .fault (.exception .gp 0 s.rip s)) ∧
        (algorithmLegal p.alg (tseAlgorithms s) = true → lockTaken s = true →
          ∃ t, exec .pconfig s = .next t ∧ keyFailed s t 5) ∧
        (algorithmLegal p.alg (tseAlgorithms s) = true → lockTaken s = false →
          ∃ t, exec .pconfig s = .next t ∧ keysWritten s t ∧ t.tmeKeys = s.tmeKeys ∧
            Store.get KeyEntry.unset p.keyId t.tseKeys =
              (if p.command = 0 then
                ⟨.encrypt, p.alg, p.key1.setWidth 256, p.key2.setWidth 256⟩
              else ⟨.noEncrypt, 0, 0, 0⟩) ∧
            ∀ k, k ≠ p.keyId → Store.get KeyEntry.unset k t.tseKeys = Store.get KeyEntry.unset k s.tseKeys))) ∧
    (∀ (control : QWord) (alg : BitVec 16) (keyId : Nat) (bs : List Byte),
      s.reg32 rax = 2 → pconfigExits s 2 = false → control = (regPointer s rbx).off →
      alg = control.extractLsb' 24 16 → keyId = control.toNat % 2 ^ 16 →
      (algorithmLegal alg (tseAlgorithms s) = false → exec .pconfig s = .fault (.exception .gp 0 s.rip s)) ∧
      (algorithmLegal alg (tseAlgorithms s) = true → (regPointer s rcx).off.toNat % 256 = 0 →
        memRead s (regPointer s rcx) 256 = .ok bs → bindReservedZero bs = true →
        (keyId = 0 ∨ tseMaxKeys s ≤ keyId → ∃ t, exec .pconfig s = .next t ∧ keyFailed s t 3) ∧
        (keyId ≠ 0 → keyId < tseMaxKeys s →
          (lockTaken s = true → ∃ t, exec .pconfig s = .next t ∧ keyFailed s t 5) ∧
          (lockTaken s = false → unwrap bs = none → ∃ t, exec .pconfig s = .next t ∧ keyFailed s t 7) ∧
          (∀ keys, lockTaken s = false → unwrap bs = some keys →
            ∃ t, exec .pconfig s = .next t ∧ keysWritten s t ∧ t.tmeKeys = s.tmeKeys ∧
              Store.get KeyEntry.unset keyId t.tseKeys =
                ⟨.encrypt, alg, BitVec.ofNat 256 (keys.toNat % 2 ^ 256), BitVec.ofNat 256 (keys.toNat / 2 ^ 256)⟩ ∧
              ∀ k, k ≠ keyId → Store.get KeyEntry.unset k t.tseKeys = Store.get KeyEntry.unset k s.tseKeys))))

/-! ## MSR instructions -/

/-- WRMSRNS completes at CPL 0 or in real-address mode, where it causes no VM exit and WRMSR of EDX:EAX to the MSR in ECX
would not fault: the MSR is written and nothing else changes, but that a write of an MSR that the platform calls
serializing performs the queued remote atomic updates (44 R298, R300, R301). That no other MSR changes (log 18), and that
the updates are performed oldest first (log 9), are the model's choices. -/
def Obligations.WrmsrnsResult : Prop :=
  ∀ (s : State) (a : Nat) (v : QWord), a = (s.reg rcx).toNat % 2 ^ 32 → v = s.reg32 rdx ++ s.reg32 rax →
    enumerated s .wrmsrns = true → (s.cpl = 0 ∨ s.mode = .real) → msrExits s true a = false →
    wrmsrFaults s a v = false →
    ∃ t, exec .wrmsrns s = .next t ∧ t = (msrWrite s a v).retire ∧ onlyMsr s t a []

/-- The names of a counter: where leaves 0AH and 23H enumerate it, IA32_A_PMCn (4C1H + n), IA32_PMCn (C1H + n) and
1900H + 4n are one MSR, and so are IA32_PERFEVTSELn (186H + n) and 1901H + 4n, IA32_FIXED_CTRm (309H + m) and 1980H + 4m;
a write through any name, full 64 bits wide, is what a read through any name gives, while the counters do not count. Where
the leaves do not enumerate it, the legacy addresses are no such names. A write of an MSR leaves every other MSR alone,
and every MSR holds what was written (IA32_EFER, which follows the mode, and the TSC of a guest with TSC offsetting apart)
(10_state R61, 60 R555). The layouts of the leaves, C1H + n and its full write are PRESUMED (logs 17, 53). That a write
touches one MSR only, that every MSR but those two holds what was written, and IA32_EFER's value are the model's choices
(log 18); so is the write of the TSC (log 10). -/
def Obligations.MsrAliasesShareStorage : Prop :=
  (∀ (s : State) (v : QWord), storesWf s = true → s.pmuRunning = false →
    ∀ n < 32,
      (legacyGp s n = true →
        (∀ a ∈ [0x4C1 + n, 0xC1 + n, 0x1900 + 4 * n], ∀ b ∈ [0x4C1 + n, 0xC1 + n, 0x1900 + 4 * n],
          (msrRead (msrWrite s a v) b).1 = v) ∧
        ∀ a ∈ [0x186 + n, 0x1901 + 4 * n], ∀ b ∈ [0x186 + n, 0x1901 + 4 * n], (msrRead (msrWrite s a v) b).1 = v) ∧
      (legacyFixed s n = true →
        ∀ a ∈ [0x309 + n, 0x1980 + 4 * n], ∀ b ∈ [0x309 + n, 0x1980 + 4 * n], (msrRead (msrWrite s a v) b).1 = v) ∧
      (legacyGp s n = false → ∀ a ∈ [0x4C1 + n, 0xC1 + n, 0x186 + n], canonMsr s a = a) ∧
      (legacyFixed s n = false → canonMsr s (0x309 + n) = 0x309 + n)) ∧
  (∀ (s : State) (a c : Nat) (v : QWord),
    (c ≠ canonMsr s a → msrStored (msrWrite s a v) c = msrStored s c) ∧
    (storesWf s = true → canonMsr s a ≠ 0xC0000080 →
      canonMsr s a ≠ 0x10 ∨ s.vmx ≠ .nonRoot ∨ s.vmcs.useTscOffset = false →
      msrStored (msrWrite s a v) (canonMsr s a) = v))

/-- RDMSRLIST with one valid entry completes in 64-bit mode at CPL 0, outside a guest, on aligned readable tables, for
a readable MSR that does not change by itself: the MSR's value is stored as 8 bytes, an armed monitor sees the store, RCX
becomes 0, nothing else changes; with no valid entry it does nothing (44 R291, 49 R472). No load-ahead fault is taken, the
environment has no event to come and no data breakpoint matches an access of the entry. -/
def Obligations.RdmsrlistEntry : Prop :=
  ∀ (s : State) (i : Nat) (entry : QWord) (pas : List Nat),
    s.mem.wf = true → s.in64 = true → enumerated s .msrList = true → s.vmx ≠ .nonRoot → s.cpl = 0 →
    (s.reg rsi).toNat % 8 = 0 → (s.reg rdi).toNat % 8 = 0 → s.env.loadAhead = [] → i < 64 →
    (s.reg rcx = 0 → exec .rdmsrlist s = .next s.retire) ∧
    (s.reg rcx = BitVec.twoPow 64 i → readEntry s rsi i = .ok entry → entry.toNat < 2 ^ 32 → entry.toNat ≠ 0x2F →
      canonMsr s entry.toNat ≠ 0x10 → rdmsrFaults s entry.toNat = false → countsFreely s entry.toNat = false →
      access s ⟨s.reg rdi + BitVec.ofNat 64 (8 * i), .ds⟩ 8 .write false 1 gp0 = .ok pas → s.env.events = [] →
      anyMatch s (entryAccesses s true i) = false →
      ∃ t, exec .rdmsrlist s = .next t ∧
        leNat (t.bytesAt pas) = (msrStored s (canonMsr s entry.toNat)).toNat ∧ sameMemoryBut s t pas ∧
        t.reg rcx = 0 ∧ sameRegsBut s t [rcx] ∧ t.vregs = s.vregs ∧ t.rflags = s.rflags ∧ t.rao = s.rao ∧
        t.monitor = s.monitor.snoop pas ∧ completesPlain s t)

/-- WRMSRLIST with one valid entry completes under the same conditions when WRMSR of the table's data would not fault:
the MSR is written, RCX becomes 0, nothing else changes (a serializing MSR apart, as for WRMSRNS); with no valid entry it
does nothing (44 R297, R298). That no other MSR changes (log 18), and that a serializing write performs the queued updates
oldest first (log 9), are the model's choices. -/
def Obligations.WrmsrlistEntry : Prop :=
  ∀ (s : State) (i : Nat) (entry data : QWord),
    s.in64 = true → enumerated s .msrList = true → s.vmx ≠ .nonRoot → s.cpl = 0 →
    (s.reg rsi).toNat % 8 = 0 → (s.reg rdi).toNat % 8 = 0 → s.env.loadAhead = [] → i < 64 →
    (s.reg rcx = 0 → exec .wrmsrlist s = .next s.retire) ∧
    (s.reg rcx = BitVec.twoPow 64 i → readEntry s rsi i = .ok entry → entry.toNat < 2 ^ 32 →
      readEntry s rdi i = .ok data → wrmsrFaults s entry.toNat data = false → s.env.events = [] →
      anyMatch s (entryAccesses s false i) = false →
      ∃ t, exec .wrmsrlist s = .next t ∧
        t = ((msrWrite s entry.toNat data).setReg rcx 0).retire ∧ onlyMsr s t entry.toNat [rcx])

/-- URDMSR, both forms, completes in 64-bit mode at any CPL when enabled, the address is at most 3FFFH, its bit of the
read bitmap is set, the access causes no VM exit and RDMSR would not fault: the destination holds the MSR's value (of
an MSR that does not count by itself); nothing else changes (44 R303, R304, R308, R309). The immediate form, whose
encoding is VEX, also needs the XSAVE enables (00_scope R11, log 43). -/
def Obligations.UrdmsrResult : Prop :=
  ∀ (s : State) (a : Nat) (dst addr : RegNum) (imm : DWord) (byte : Byte),
    s.in64 = true → enumerated s .userMsr = true → (Store.get 0 0x1C s.msrs).getLsbD 0 = true → a ≤ 0x3FFF →
    readSupervisorByte s ((Store.get 0 0x1C s.msrs &&& ~~~(0xFFF : QWord)) + BitVec.ofNat 64 (a / 8)) = .ok byte →
    byte.getLsbD (a % 8) = true → userMsrExits s false a = false → rdmsrFaults s a = false →
    countsFreely s a = false →
    ((s.reg addr).toNat = a →
      ∃ t, exec (.urdmsrReg dst addr) s = .next t ∧ t.reg dst = msrStored s (canonMsr s a) ∧ onlyRegs s t [dst]) ∧
    (imm.toNat = a → s.avxEnabled = true →
      ∃ t, exec (.urdmsrImm dst imm) s = .next t ∧ t.reg dst = msrStored s (canonMsr s a) ∧ onlyRegs s t [dst])

/-- UWRMSR, both forms, completes in 64-bit mode at any CPL when enabled, the address is at most 3FFFH, its bit of the
write bitmap is set, it is one of the writable MSRs, the access causes no VM exit and WRMSR would not fault: the MSR is
written; nothing else changes (a serializing MSR apart, as for WRMSRNS) (44 R305, R306, R308, R309, R312). The immediate
form, whose encoding is VEX, also needs the XSAVE enables (00_scope R11, log 43). That no other MSR changes (log 18), and
that a serializing write performs the queued updates oldest first (log 9), are the model's choices. -/
def Obligations.UwrmsrResult : Prop :=
  ∀ (s : State) (a : Nat) (addr src : RegNum) (imm : DWord) (byte : Byte),
    s.in64 = true → enumerated s .userMsr = true → (Store.get 0 0x1C s.msrs).getLsbD 0 = true → a ≤ 0x3FFF →
    readSupervisorByte s ((Store.get 0 0x1C s.msrs &&& ~~~(0xFFF : QWord)) + BitVec.ofNat 64 (2048 + a / 8)) =
      .ok byte →
    byte.getLsbD (a % 8) = true → a ∈ s.platform.userMsrWritable → userMsrExits s true a = false →
    wrmsrFaults s a (s.reg src) = false →
    ((s.reg addr).toNat = a →
      ∃ t, exec (.uwrmsrReg addr src) s = .next t ∧ t = (msrWrite s a (s.reg src)).retire ∧ onlyMsr s t a []) ∧
    (imm.toNat = a → s.avxEnabled = true →
      ∃ t, exec (.uwrmsrImm imm src) s = .next t ∧ t = (msrWrite s a (s.reg src)).retire ∧ onlyMsr s t a [])

/-- URDMSR and UWRMSR, register and immediate forms, in 64-bit mode and enumerated: disabled, they raise the platform's
fault; enabled, an address above 3FFFH, a clear bit of the read or write bitmap, or a write to an MSR that is not
among the writable ones is #GP(0) (44 R309). The immediate forms raise #UD where the XSAVE enables are off (00_scope R11,
log 43). -/
def Obligations.UserMsrDenied : Prop :=
  ∀ (s : State) (r addr : RegNum) (imm : DWord) (write : Bool) (i : Instr) (a : Nat) (byte : Byte),
    s.in64 = true → enumerated s .userMsr = true →
    (i, a) ∈ (if write then [(Instr.uwrmsrReg addr r, userMsrAddress s addr), (.uwrmsrImm imm r, imm.toNat)]
      else [(.urdmsrReg r addr, userMsrAddress s addr), (.urdmsrImm r imm, imm.toNat)]) →
    (s.avxEnabled = false → i ∈ [.urdmsrImm r imm, .uwrmsrImm imm r] →
      exec i s = .fault (.exception .ud 0 s.rip s)) ∧
    (s.avxEnabled = true ∨ i ∈ [.urdmsrReg r addr, .uwrmsrReg addr r] →
      ((Store.get 0 0x1C s.msrs).getLsbD 0 = false →
        exec i s = .fault (.exception (if s.platform.userMsrDisabledIsGp then .gp else .ud) 0 s.rip s)) ∧
      ((Store.get 0 0x1C s.msrs).getLsbD 0 = true → 0x3FFF < a →
        exec i s = .fault (.exception .gp 0 s.rip s)) ∧
      ((Store.get 0 0x1C s.msrs).getLsbD 0 = true → a ≤ 0x3FFF →
        readSupervisorByte s (userBitmapByte s write a) = .ok byte →
        byte.getLsbD (a % 8) = false ∨ (write = true ∧ a ∉ s.platform.userMsrWritable) →
        exec i s = .fault (.exception .gp 0 s.rip s)))

/-! ## AVX-VNNI and AVX-IFMA -/

/-- The twelve byte dot products complete when enabled and their source is readable: each dword of the destination is
the old one plus the exact sum of four products, wrapped or saturated once, bits above the vector length are 0, nothing
else changes (46 R350, R351, R353 to R359). -/
def Obligations.DotProductBytes : Prop :=
  ∀ (s1 s2 : Sign) (sat : Bool) (i128 i256 : RegNum → RegNum → RM → Instr),
    (s1, s2, sat, i128, i256) ∈
      [(Sign.signed, Sign.signed, false, Instr.vpdpbssd128, Instr.vpdpbssd256),
       (.signed, .signed, true, .vpdpbssds128, .vpdpbssds256), (.signed, .unsigned, false, .vpdpbsud128, .vpdpbsud256),
       (.signed, .unsigned, true, .vpdpbsuds128, .vpdpbsuds256),
       (.unsigned, .unsigned, false, .vpdpbuud128, .vpdpbuud256),
       (.unsigned, .unsigned, true, .vpdpbuuds128, .vpdpbuuds256)] →
    ∀ (d a : RegNum) (b : RM) (v : Vec) (s : State) (wide : Bool), vexReady s [.vnniInt8] →
      rmSource s b (if wide then 32 else 16) = .ok v →
      ∃ t, exec ((if wide then i256 else i128) d a b) s = .next t ∧
        (∀ j < (if wide then 8 else 4), dword (t.vreg d) j =
          dotValue s1 s2 sat (dword (s.vreg d) j) (fun k => byteAt (s.vreg a) (4 * j + k))
            (fun k => byteAt v (4 * j + k)) 4) ∧
        (∀ k ≥ (if wide then 256 else 128), (t.vreg d).getLsbD k = false) ∧ onlyVreg s t d

/-- The twelve word dot products, likewise with two products of words (46 R350, R351, R360 to R366). -/
def Obligations.DotProductWords : Prop :=
  ∀ (s1 s2 : Sign) (sat : Bool) (i128 i256 : RegNum → RegNum → RM → Instr),
    (s1, s2, sat, i128, i256) ∈
      [(Sign.signed, Sign.unsigned, false, Instr.vpdpwsud128, Instr.vpdpwsud256),
       (.signed, .unsigned, true, .vpdpwsuds128, .vpdpwsuds256), (.unsigned, .signed, false, .vpdpwusd128, .vpdpwusd256),
       (.unsigned, .signed, true, .vpdpwusds128, .vpdpwusds256),
       (.unsigned, .unsigned, false, .vpdpwuud128, .vpdpwuud256),
       (.unsigned, .unsigned, true, .vpdpwuuds128, .vpdpwuuds256)] →
    ∀ (d a : RegNum) (b : RM) (v : Vec) (s : State) (wide : Bool), vexReady s [.vnniInt16] →
      rmSource s b (if wide then 32 else 16) = .ok v →
      ∃ t, exec ((if wide then i256 else i128) d a b) s = .next t ∧
        (∀ j < (if wide then 8 else 4), dword (t.vreg d) j =
          dotValue s1 s2 sat (dword (s.vreg d) j) (fun k => word16 (s.vreg a) (2 * j + k))
            (fun k => word16 v (2 * j + k)) 2) ∧
        (∀ k ≥ (if wide then 256 else 128), (t.vreg d).getLsbD k = false) ∧ onlyVreg s t d

/-- VPMADD52HUQ and VPMADD52LUQ complete when enabled and their source is readable: each qword of the destination is
the old one plus the high or low 52 bits of the product of the low 52 bits of the sources, modulo 2^64; bits above the
vector length are 0, nothing else changes (46 R350, R367 to R369). -/
def Obligations.MultiplyAdd52 : Prop :=
  ∀ (d a : RegNum) (b : RM) (v : Vec) (s : State) (wide high : Bool), vexReady s [.avxIfma] →
    rmSource s b (if wide then 32 else 16) = .ok v →
    ∃ t, exec ((if wide then (if high then Instr.vpmadd52huq256 else .vpmadd52luq256)
        else (if high then .vpmadd52huq128 else .vpmadd52luq128)) d a b) s = .next t ∧
      (∀ j < (if wide then 4 else 2), (qword (t.vreg d) j).toNat =
        ((qword (s.vreg d) j).toNat +
          (if high then (qword (s.vreg a) j).toNat % 2 ^ 52 * ((qword v j).toNat % 2 ^ 52) / 2 ^ 52
           else (qword (s.vreg a) j).toNat * (qword v j).toNat % 2 ^ 52)) % 2 ^ 64) ∧
      (∀ k ≥ (if wide then 256 else 128), (t.vreg d).getLsbD k = false) ∧ onlyVreg s t d

/-- Saturation replaces a sum beyond the unsigned or signed doubleword range by the bound it passed, and keeps a sum
inside it; it is applied once, to the final sum (46 R351). That it is applied once, and the unsigned lower bound, are from
general knowledge as R351 marks them (log 47). -/
def Obligations.SaturatesFinalSum : Prop :=
  (∀ x : Int, (2 ^ 32 - 1 < x → satU32 x = 0xFFFFFFFF) ∧ (x < 0 → satU32 x = 0) ∧
    (0 ≤ x → x ≤ 2 ^ 32 - 1 → ((satU32 x).toNat : Int) = x)) ∧
  (∀ x : Int, (2 ^ 31 - 1 < x → satS32 x = 0x7FFFFFFF) ∧ (x < -2 ^ 31 → satS32 x = 0x80000000) ∧
    (-2 ^ 31 ≤ x → x ≤ 2 ^ 31 - 1 → (satS32 x).toInt = x)) ∧
  (∀ (s1 s2 : Sign) (old : DWord) (p : Int), dotAccumulate s1 s2 true old p =
    if s1 = .unsigned ∧ s2 = .unsigned then satU32 (old.toNat + p) else satS32 (old.toInt + p))

/-! ## AVX-NE-CONVERT -/

/-- The eight even and odd conversions complete when enabled and their memory source is readable: each dword of the
destination is the even or odd 16-bit element converted (a BF16 element by moving its bits up), bits above the vector
length are 0, nothing else changes (45 R332, R333, R337 to R340). -/
def Obligations.NeConvertEvenOdd : Prop :=
  ∀ (d : RegNum) (m : MemOp) (v : Vec) (s : State) (wide : Bool), vexReady s [.avxNeConvert] →
    rmSource s (.mem m) (if wide then 32 else 16) = .ok v →
    ∀ (i : Instr) (f : Nat → DWord),
      (i, f) ∈ [(if wide then Instr.vcvtneebf162ps256 d m else .vcvtneebf162ps128 d m, fun j => dword v j <<< 16),
        (if wide then .vcvtneobf162ps256 d m else .vcvtneobf162ps128 d m, fun j => dword v j &&& 0xFFFF0000),
        (if wide then .vcvtneeph2ps256 d m else .vcvtneeph2ps128 d m,
          fun j => fp16ToFp32 (!s.platform.fp16SNaNPreserved) (word16 v (2 * j))),
        (if wide then .vcvtneoph2ps256 d m else .vcvtneoph2ps128 d m,
          fun j => fp16ToFp32 (!s.platform.fp16SNaNPreserved) (word16 v (2 * j + 1)))] →
      ∃ t, exec i s = .next t ∧ (∀ j < (if wide then 8 else 4), dword (t.vreg d) j = f j) ∧
        (∀ k ≥ (if wide then 256 else 128), (t.vreg d).getLsbD k = false) ∧ onlyVreg s t d

/-- The four broadcasts complete when enabled and their 16-bit memory source is readable: every dword of the
destination is the element converted, bits above the vector length are 0, nothing else changes (45 R333 to R336). -/
def Obligations.NeBroadcastResult : Prop :=
  ∀ (d : RegNum) (m : MemOp) (lo hi : Byte) (s : State) (wide : Bool), vexReady s [.avxNeConvert] →
    memReadChecked s (memPointer s m) 2 = .ok [lo, hi] →
    ∀ (i : Instr) (x : DWord),
      (i, x) ∈ [(if wide then Instr.vbcstnebf162ps256 d m else .vbcstnebf162ps128 d m, hi ++ lo ++ (0 : BitVec 16)),
        (if wide then .vbcstnesh2ps256 d m else .vbcstnesh2ps128 d m,
          fp16ToFp32 (!s.platform.fp16SNaNPreserved) (hi ++ lo))] →
      ∃ t, exec i s = .next t ∧ (∀ j < (if wide then 8 else 4), dword (t.vreg d) j = x) ∧
        (∀ k ≥ (if wide then 256 else 128), (t.vreg d).getLsbD k = false) ∧ onlyVreg s t d

/-- VCVTNEPS2BF16, both lengths, completes when enabled and its source is readable: each word of the destination is the
dword converted; a dword with exponent 0 gives a zero of its sign, a NaN its upper half with bit 6 set, any other its
upper half after adding 7FFFH plus its bit 16; the bits above are 0, nothing else changes (45 R333, R341). -/
def Obligations.NeConvertToBf16 : Prop :=
  ∀ (d : RegNum) (b : RM) (v : Vec) (s : State) (wide : Bool), vexReady s [.avxNeConvert] →
    rmSource s b (if wide then 32 else 16) = .ok v →
    ∃ t, exec (if wide then .vcvtneps2bf16256 d b else .vcvtneps2bf16128 d b) s = .next t ∧
      (∀ j < (if wide then 8 else 4),
        ((dword v j).toNat / 2 ^ 23 % 256 = 0 → (word16 (t.vreg d) j).toNat = (dword v j).toNat / 2 ^ 31 * 2 ^ 15) ∧
        ((dword v j).toNat / 2 ^ 23 % 256 = 255 → (dword v j).toNat % 2 ^ 23 ≠ 0 →
          (word16 (t.vreg d) j).toNat = (dword v j).toNat / 2 ^ 16 ||| 0x40) ∧
        ((dword v j).toNat / 2 ^ 23 % 256 = 255 → (dword v j).toNat % 2 ^ 23 = 0 →
          (word16 (t.vreg d) j).toNat = (dword v j).toNat / 2 ^ 16) ∧
        ((dword v j).toNat / 2 ^ 23 % 256 ≠ 0 → (dword v j).toNat / 2 ^ 23 % 256 ≠ 255 →
          (word16 (t.vreg d) j).toNat =
            ((dword v j).toNat + 0x7FFF + (dword v j).toNat / 2 ^ 16 % 2) / 2 ^ 16)) ∧
      (∀ k ≥ (if wide then 128 else 64), (t.vreg d).getLsbD k = false) ∧ onlyVreg s t d

/-- The FP16 to FP32 conversion of a finite number is exact: with `n` the magnitude of the FP16 number in units of
2^-24, the FP32 number is the same value with the same sign. An infinity gives the infinity of its sign; a NaN keeps its
sign and its fraction, moved to the top of the FP32 fraction, and its quiet bit is set where the conversion quiets
(45 R331, R332). -/
def Obligations.Fp16ConversionExact : Prop :=
  (∀ (quiet : Bool) (h : BitVec 16) (n : Nat), h.toNat / 2 ^ 10 % 32 ≠ 31 →
    n = (if h.toNat / 2 ^ 10 % 32 = 0 then h.toNat % 2 ^ 10
      else (2 ^ 10 + h.toNat % 2 ^ 10) * 2 ^ (h.toNat / 2 ^ 10 % 32 - 1)) →
    fpUnits (fp16ToFp32 quiet h) = (if h.msb then -(n : Int) else n) * 2 ^ 125 ∧ fpSign (fp16ToFp32 quiet h) = h.msb) ∧
  ∀ (quiet : Bool) (h : BitVec 16) (x : DWord), h.toNat / 2 ^ 10 % 32 = 31 → x = fp16ToFp32 quiet h →
    fpSign x = h.msb ∧ fpExp x = 255 ∧
    (h.toNat % 2 ^ 10 = 0 → fpInf x = true) ∧
    (h.toNat % 2 ^ 10 ≠ 0 → fpNaN x = true ∧
      fpFrac x = (if quiet then h.toNat % 2 ^ 10 ||| 2 ^ 9 else h.toNat % 2 ^ 10) * 2 ^ 13)

/-! ## SHA512, SM3, SM4 -/

/-- The SHA512 instructions complete when enabled: with `s0`, `s1`, the two capital sigmas, `CH` and `MAJ` written out, the
message schedule's and the two rounds' equations hold of the qwords before and after, bits above 256 are 0, nothing else
changes (47 R380 to R384). -/
def Obligations.Sha512Result : Prop :=
  ∀ (d a b : RegNum) (s : State), vexReady s [.avx, .sha512] →
    (∃ t, exec (.vsha512msg1 d b) s = .next t ∧
      (∀ j < 4, ∀ x : QWord, x = (if j = 3 then qword (s.vreg b) 0 else qword (s.vreg d) (j + 1)) →
        qword (t.vreg d) j = qword (s.vreg d) j + (x.rotateRight 1 ^^^ x.rotateRight 8 ^^^ x >>> (7 : Nat))) ∧
      (∀ k ≥ 256, (t.vreg d).getLsbD k = false) ∧ onlyVreg s t d) ∧
    (∃ t, exec (.vsha512msg2 d b) s = .next t ∧
      (∀ j < 4, ∀ x : QWord, x = (if j < 2 then qword (s.vreg b) (j + 2) else qword (t.vreg d) (j - 2)) →
        qword (t.vreg d) j = qword (s.vreg d) j + (x.rotateRight 19 ^^^ x.rotateRight 61 ^^^ x >>> (6 : Nat))) ∧
      (∀ k ≥ 256, (t.vreg d).getLsbD k = false) ∧ onlyVreg s t d) ∧
    (∃ t, ∃ A B C D E F G H T : Nat → QWord, exec (.vsha512rnds2 d a b) s = .next t ∧
      A 0 = qword (s.vreg a) 3 ∧ B 0 = qword (s.vreg a) 2 ∧ E 0 = qword (s.vreg a) 1 ∧ F 0 = qword (s.vreg a) 0 ∧
      C 0 = qword (s.vreg d) 3 ∧ D 0 = qword (s.vreg d) 2 ∧ G 0 = qword (s.vreg d) 1 ∧ H 0 = qword (s.vreg d) 0 ∧
      (∀ i < 2,
        T i = ((E i &&& F i) ^^^ (G i &&& ~~~E i)) +
          ((E i).rotateRight 14 ^^^ (E i).rotateRight 18 ^^^ (E i).rotateRight 41) + qword (s.vreg b) i + H i ∧
        A (i + 1) = T i + ((A i &&& B i) ^^^ (A i &&& C i) ^^^ (B i &&& C i)) +
          ((A i).rotateRight 28 ^^^ (A i).rotateRight 34 ^^^ (A i).rotateRight 39) ∧
        B (i + 1) = A i ∧ C (i + 1) = B i ∧ D (i + 1) = C i ∧
        E (i + 1) = T i + D i ∧ F (i + 1) = E i ∧ G (i + 1) = F i ∧ H (i + 1) = G i) ∧
      qword (t.vreg d) 3 = A 2 ∧ qword (t.vreg d) 2 = B 2 ∧ qword (t.vreg d) 1 = E 2 ∧ qword (t.vreg d) 0 = F 2 ∧
      (∀ k ≥ 256, (t.vreg d).getLsbD k = false) ∧ onlyVreg s t d)

/-- The SM3 instructions complete when enabled and their source is readable: with `P0`, `P1`, `FF` and `GG` written out,
the schedule's and the two rounds' equations hold of the dwords before and after, bits above 128 are 0, nothing else
changes; bits 0, 6 and 7 of the immediate are ignored (47 R386 to R390). -/
def Obligations.Sm3Result : Prop :=
  ∀ (d a : RegNum) (b : RM) (v : Vec) (imm : Byte) (s : State), vexReady s [.avx, .sm3] → rmSource s b 16 = .ok v →
    (∃ t, exec (.vsm3msg1 d a b) s = .next t ∧
      (∀ j < 4, ∀ x : DWord,
        x = dword (s.vreg d) j ^^^ dword v j ^^^ (if j = 3 then 0 else (dword (s.vreg a) j).rotateLeft 15) →
        dword (t.vreg d) j = x ^^^ x.rotateLeft 15 ^^^ x.rotateLeft 23) ∧
      (∀ k ≥ 128, (t.vreg d).getLsbD k = false) ∧ onlyVreg s t d) ∧
    (∃ t, ∃ W : Nat → DWord, exec (.vsm3msg2 d a b) s = .next t ∧
      (∀ j < 4, W j = (dword (s.vreg a) j).rotateLeft 7 ^^^ dword v j ^^^ dword (s.vreg d) j) ∧
      (∀ j < 3, dword (t.vreg d) j = W j) ∧
      dword (t.vreg d) 3 = W 3 ^^^ (W 0).rotateLeft 6 ^^^ (W 0).rotateLeft 15 ^^^ (W 0).rotateLeft 30 ∧
      (∀ k ≥ 128, (t.vreg d).getLsbD k = false) ∧ onlyVreg s t d) ∧
    (∃ t, ∃ A B C D E F G H K S1 T2 : Nat → DWord, ∃ round : Nat, exec (.vsm3rnds2 d a b imm) s = .next t ∧
      round = imm.toNat / 2 % 32 * 2 ∧
      A 0 = dword (s.vreg a) 3 ∧ B 0 = dword (s.vreg a) 2 ∧ E 0 = dword (s.vreg a) 1 ∧ F 0 = dword (s.vreg a) 0 ∧
      C 0 = (dword (s.vreg d) 3).rotateLeft 9 ∧ D 0 = (dword (s.vreg d) 2).rotateLeft 9 ∧
      G 0 = (dword (s.vreg d) 1).rotateLeft 19 ∧ H 0 = (dword (s.vreg d) 0).rotateLeft 19 ∧
      K 0 = BitVec.rotateLeft (if round < 16 then 0x79CC4519#32 else 0x7A879D8A#32) round ∧
      (∀ i < 2,
        S1 i = ((A i).rotateLeft 12 + E i + K i).rotateLeft 7 ∧
        A (i + 1) =
          (if round < 16 then A i ^^^ B i ^^^ C i else (A i &&& B i) ||| (A i &&& C i) ||| (B i &&& C i)) + D i +
            (S1 i ^^^ (A i).rotateLeft 12) + (dword v i ^^^ dword v (i + 2)) ∧
        T2 i = (if round < 16 then E i ^^^ F i ^^^ G i else (E i &&& F i) ||| (~~~E i &&& G i)) + H i + S1 i +
          dword v i ∧
        B (i + 1) = A i ∧ C (i + 1) = (B i).rotateLeft 9 ∧ D (i + 1) = C i ∧
        E (i + 1) = T2 i ^^^ (T2 i).rotateLeft 9 ^^^ (T2 i).rotateLeft 17 ∧
        F (i + 1) = E i ∧ G (i + 1) = (F i).rotateLeft 19 ∧ H (i + 1) = G i ∧ K (i + 1) = (K i).rotateLeft 1) ∧
      dword (t.vreg d) 3 = A 2 ∧ dword (t.vreg d) 2 = B 2 ∧ dword (t.vreg d) 1 = E 2 ∧ dword (t.vreg d) 0 = F 2 ∧
      (∀ k ≥ 128, (t.vreg d).getLsbD k = false) ∧ onlyVreg s t d)

/-- The SM4 instructions, both lengths, complete when enabled and their source is readable: in each lane the four new
dwords follow the cipher's recurrence, `X[k+4] = X[k] ^ L(S-box of each byte of (X[k+1] ^ X[k+2] ^ X[k+3] ^ key[k]))`, from
the previous four in the first source and the four keys in the second; `L` adds (by exclusive or) the rotations by 13 and
23 for VSM4KEY4, by 2, 10, 18 and 24 for VSM4RNDS4. Bits above the vector length are 0, nothing else changes (47 R392 to
R396). -/
def Obligations.Sm4Result : Prop :=
  ∀ (d a : RegNum) (b : RM) (v : Vec) (s : State) (wide : Bool), vexReady s [.avx, .sm4] →
    rmSource s b (if wide then 32 else 16) = .ok v →
    ∀ (i : Instr) (rotations : List Nat),
      (i, rotations) ∈ [(if wide then Instr.vsm4key4256 d a b else .vsm4key4128 d a b, [13, 23]),
        (if wide then .vsm4rnds4256 d a b else .vsm4rnds4128 d a b, [2, 10, 18, 24])] →
      ∃ t, exec i s = .next t ∧
        (∀ l < (if wide then 2 else 1), ∃ X Y Z : Nat → DWord,
          (∀ k < 4, X k = dword (s.vreg a) (4 * l + k) ∧
            Y k = X (k + 1) ^^^ X (k + 2) ^^^ X (k + 3) ^^^ dword v (4 * l + k) ∧
            (∀ n < 4, byteAt (Z k) n = sm4Sbox.getD (byteAt (Y k) n).toNat 0) ∧
            X (k + 4) = rotations.foldl (fun x n => x ^^^ (Z k).rotateLeft n) (X k ^^^ Z k)) ∧
          ∀ k < 4, dword (t.vreg d) (4 * l + k) = X (k + 4)) ∧
        (∀ k ≥ (if wide then 256 else 128), (t.vreg d).getLsbD k = false) ∧ onlyVreg s t d

/-! ## AMX -/

/-- The three tile multiplications complete in 64-bit mode when enabled and the tiles are different, valid for the palette
and of matching dimensions. Each element of a configured row is `AMX_FP_RESULT` of the old element and the pairs of its
row and column. Where the platform follows the reference order, or every partial sum is exact, that is the old
element added to the sum of two accumulations, each a fused multiply-add in order of k: of low times low and high times
high words (TDPFP16PS), of high times low and low times high (TCMMIMFP16PS), of low times low and negated high times high
(TCMMRLFP16PS). An element is never a denormal. Every other byte of the destination tile is 0; the other tiles, the
configuration but for start_row = 0, and everything else are unchanged (48 R417, R418, R420 to R425). Elsewhere an element
is what some order of accumulation gives. When that is the reference (`amxExact`) is the model's choice, and the NaN and
zero-sign rules inside the two primitives are PRESUMED (log 15). -/
def Obligations.AmxResult : Prop :=
  ∀ (i : RegNum → RegNum → RegNum → Instr) (op : AmxOp) (f : Feature) (x0 y0 x1 y1 : Nat) (sign : DWord),
    (i, op, f, x0, y0, x1, y1, sign) ∈ [(Instr.tdpfp16ps, AmxOp.dot, Feature.amxFp16, 0, 0, 1, 1, 0),
      (.tcmmimfp16ps, .imaginary, .amxComplex, 1, 0, 0, 1, 0),
      (.tcmmrlfp16ps, .real, .amxComplex, 0, 0, 1, 1, 0x80000000)] →
    ∀ (d a b : RegNum) (s : State) (limits : PaletteLimits), s.in64 = true → enumerated s f = true →
      s.avxEnabled = true → s.xcr0.getLsbD 17 = true → s.xcr0.getLsbD 18 = true → s.taskSwitched = false →
      s.tilesConfigured = true → limits = paletteLimits s s.tilecfg.palette.toNat →
      (∀ x ∈ [d, a, b], x.toNat < limits.names ∧ 1 ≤ s.tileRows x ∧ s.tileRows x ≤ limits.rows ∧ 1 ≤ s.tileColsb x ∧
        s.tileColsb x ≤ limits.bytesPerRow ∧ s.tileColsb x % 4 = 0) →
      d ≠ a → d ≠ b → a ≠ b → s.tileRows d = s.tileRows a → s.tileColsb d = s.tileColsb b →
      s.tileColsb a / 4 = s.tileRows b → s.tileColsb b ≤ tmulMaxN s → s.tileRows b ≤ tmulMaxK s →
      ∃ t, exec (i d a b) s = .next t ∧
        (∀ m < s.tileRows d, ∀ n < s.tileColsb d / 4, ∀ (old new : DWord) (pairs : List (DWord × DWord)),
          old = dword (tileRow (s.tile d) m) n → new = dword (tileRow (t.tile d) m) n →
          pairs = ((List.range (s.tileColsb a / 4)).map fun k =>
            (dword (tileRow (s.tile a) m) k, dword (tileRow (s.tile b) k) n)) →
          new = amxElement s op old pairs ∧ (fpExp new = 0 → fpFrac new = 0) ∧
          (s.platform.amxReference = false → amxExact op old pairs = false →
            ∃ order nan, new = amxOrdered order nan op old pairs) ∧
          (s.platform.amxReference = true ∨ amxExact op old pairs = true →
            new = addFtz old (addFtz
              (pairs.foldl (fun acc p =>
                fmaFtz (fp16ToFp32 true (word16 p.1 x0)) (fp16ToFp32 true (word16 p.2 y0)) acc) 0)
              (pairs.foldl (fun acc p =>
                fmaFtz (fp16ToFp32 true (word16 p.1 x1) ^^^ sign) (fp16ToFp32 true (word16 p.2 y1)) acc) 0)))) ∧
        (∀ m < s.tileRows d, ∀ k ≥ 8 * s.tileColsb d, (tileRow (t.tile d) m).getLsbD k = false) ∧
        (∀ m ≥ s.tileRows d, tileRow (t.tile d) m = 0) ∧
        (∀ x : RegNum, x.toNat % 8 ≠ d.toNat → t.tile x = s.tile x) ∧ t.tilecfg = { s.tilecfg with startRow := 0 } ∧
        sameRegsBut s t [] ∧ t.vregs = s.vregs ∧ t.rflags = s.rflags ∧ sameMemory s t ∧ t.monitor = s.monitor ∧
        t.rao = s.rao ∧ completesPlain s { t with tiles := s.tiles, tilecfg := s.tilecfg }

/-- Rounding keeps every number that FP32 represents exactly as a normal number; so the sum of two finite numbers and the
fused multiply-add of three are exact where their result is such a number, and zero where it is zero (48 R421). -/
def Obligations.Fp32RoundExact : Prop :=
  ∀ (x : Int) (e : Nat), (x = 0 ∨ (2 ^ 23 ≤ x.natAbs ∧ x.natAbs < 2 ^ 24 ∧ e ≤ 253)) →
    (∀ k : Nat, fpUnits (fpRound k (x * 2 ^ (e + k))) = x * 2 ^ e) ∧
    (∀ a b : DWord, fpExp a ≠ 255 → fpExp b ≠ 255 → fpUnits a + fpUnits b = x * 2 ^ e →
      fpUnits (addFtz a b) = x * 2 ^ e) ∧
    (∀ a b c : DWord, fpExp a ≠ 255 → fpExp b ≠ 255 → fpExp c ≠ 255 →
      fpUnits a * fpUnits b + fpUnits c * 2 ^ 149 = x * 2 ^ (e + 149) → fpUnits (fmaFtz a b c) = x * 2 ^ e)

/-! ## Prefetch, UIRET, MWAIT -/

/-- Every prefetch hint completes, whatever its address, and only advances RIP (49 R450 to R458). -/
def Obligations.PrefetchOnlyAdvances : Prop :=
  ∀ (m : MemOp) (s : State) (i : Instr),
    i ∈ [Instr.prefetchnta m, .prefetcht0 m, .prefetcht1 m, .prefetcht2 m, .prefetchit1 m, .prefetchit0 m] →
    ∃ t, exec i s = .next t ∧ onlyRegs s t []

/-- UIRET completes in 64-bit mode when user interrupts are enabled, its three frame quadwords are readable and the
first is canonical: RIP and RSP come from the frame, RFLAGS takes the bits of 254DD5H from it, UIF is set as the
flexible update says, the monitor is cleared (49 R460 to R464). Where last-branch recording is on, the records move up by
one and record 0 has a type of 1xxxb, OTHER_BRANCH (60 R557; log 55). Nothing else changes. -/
def Obligations.UiretResult : Prop :=
  ∀ (s : State) (newRip image newRsp : QWord),
    s.in64 = true → s.cr4.getLsbD 25 = true → enumerated s .uintr = true →
    uiretPop s 0 = .ok newRip → uiretPop s 1 = .ok image → uiretPop s 2 = .ok newRsp → s.canonical newRip = true →
    ∃ t, exec .uiret s = .next t ∧ t.rip = newRip ∧ t.ripWrapped = false ∧ t.reg rsp = newRsp ∧
      sameRegsBut s t [rsp] ∧ t.rflags = (s.rflags &&& ~~~0x254DD5) ||| (image &&& 0x254DD5) ∧
      t.uif = (if enumerated s .uiretUif then image.getLsbD 1 else true) ∧ t.monitor = .idle ∧
      t.vregs = s.vregs ∧ sameMemory s t ∧ t.rao = s.rao ∧
      t.fixedCtr0 = (if s.pmuRunning then s.fixedCtr0 + 1 else s.fixedCtr0) ∧
      (lbrRecords s = false → t.msrs = s.msrs ∧ t.draws = s.draws) ∧
      (lbrRecords s = true → storesWf s = true →
        (Store.get 0 0x1200 t.msrs).getLsbD 59 = true ∧
        (∀ x, 1 ≤ x → x < lbrDepth s → Store.get 0 (0x1200 + x) t.msrs = Store.get 0 (0x1200 + x - 1) s.msrs) ∧
        ∀ a, a < 0x1200 ∨ 0x1200 + lbrDepth s ≤ a → Store.get 0 a t.msrs = Store.get 0 a s.msrs) ∧
      { t with
        gpr := s.gpr, rip := s.rip, ripWrapped := s.ripWrapped, rflags := s.rflags, uif := s.uif, monitor := s.monitor
        msrs := s.msrs, draws := s.draws, fixedCtr0 := s.fixedCtr0 } = s

/-- UIRET updates in RFLAGS only CF, PF, AF, ZF, SF, TF, DF, OF, NT, RF, AC and ID, bits 0, 2, 4, 6, 7, 8, 10, 11, 14,
16, 18 and 21; every other bit is not loaded from the frame (49 R462). -/
def Obligations.UiretFlagBits : Prop :=
  ∀ s t : State, exec .uiret s = .next t →
    ∃ image, uiretPop s 1 = .ok image ∧
      ∀ n < 64, t.rflags.getLsbD n =
        if n ∈ [0, 2, 4, 6, 7, 8, 10, 11, 14, 16, 18, 21] then image.getLsbD n else s.rflags.getLsbD n

/-- Without the flexible update UIRET always sets UIF; with it, UIF takes bit 1 of the popped RFLAGS image, so an image
with that bit set gives UIF = 1 as before (49 R463). -/
def Obligations.FlexibleUif : Prop :=
  ∀ s t : State, exec .uiret s = .next t →
    ∃ image, uiretPop s 1 = .ok image ∧
      (enumerated s .uiretUif = false → t.uif = true) ∧
      (enumerated s .uiretUif = true → t.uif = image.getLsbD 1) ∧ (image.getLsbD 1 = true → t.uif = true)

/-- MWAIT completes at CPL 0, where it causes no VM exit, when enabled and enumerated. With ECX = 0, where MONITOR is
enumerated, it waits if a range is armed, and else sets the monitor as triggered; with ECX = 4, where monitorless MWAIT is
supported, it waits whatever is armed, and the monitor is kept if the environment does not say otherwise (93 U18, log 32),
and where it is not supported, it raises #GP(0). Whether CPUID.05H:ECX[3], CPUID.(7,1):EDX[23], either or both say that it
is supported is a parameter of the platform, because the rules differ (log 32). No register, flag or byte of memory
changes (40 R196; 49 R469 to R473, R476). -/
def Obligations.MwaitResult : Prop :=
  ∀ s : State, monitorEnabled s = true → enumerated s .monitor = true ∨ enumerated s .mwait = true → s.cpl = 0 →
    s.vmx ≠ .nonRoot ∨ s.vmcs.mwaitExiting = false →
    (∀ base size, enumerated s .monitor = true → s.monitor = .armed base size → s.reg32 rcx = 0 →
      ∃ t, exec .mwait s = .next t ∧ t.activity = .mwait false false (mwaitDeep (s.reg32 rax)) ∧
        onlyRegs s { t with activity := s.activity } []) ∧
    (enumerated s .monitor = true → (∀ base size, s.monitor ≠ .armed base size) → s.reg32 rcx = 0 →
      ∃ t, exec .mwait s = .next t ∧ t.activity = s.activity ∧ t.monitor = .triggered ∧
        onlyRegs s { t with monitor := s.monitor } []) ∧
    (∀ leaf5 leaf7 supported : Bool, leaf5 = enumerated s .monitorlessMwait → leaf7 = enumerated s .mwait →
      supported = (match s.platform.monitorlessGate with
        | .leaf5 => leaf5
        | .leaf7 => leaf7
        | .either => leaf5 || leaf7
        | .both => leaf5 && leaf7) →
      s.reg32 rcx = 4 →
      (supported = true → s.env.monitorLost = [] →
        ∃ t, exec .mwait s = .next t ∧ t.activity = .mwait true false (mwaitDeep (s.reg32 rax)) ∧
          onlyRegs s { t with activity := s.activity } []) ∧
      (supported = false → exec .mwait s = .fault (.exception .gp 0 s.rip s)))

/-! ## Addresses and timers -/

/-- A pointer that passes the canonicality check gives a canonical linear address. LAM masks the bits above bit 56 or 47
as the control of the pointer's half says (for bit 63 = 0, CR3 bit 61 or 62, or in enclave mode SECS.LAM_U57 or LAM_U48; for
bit 63 = 1, CR4.LAM_SUP with CR4.LA57): every bit it masks is the pointer's bit 63, every other bit is the pointer's own
(20_memory R96, R101, R102, R109; the positions of the controls: log 35). -/
def Obligations.LamGivesCanonical : Prop :=
  ∀ (s : State) (p la : QWord) (width : Nat), lamCheckAndMask s p = some la →
    width = (if p.msb then
        (if s.enclave = false ∧ s.cr4.getLsbD 28 = true then (if s.cr4.getLsbD 12 then 57 else 48) else 64)
      else if (if s.enclave then s.secsLamU57 else s.cr3.getLsbD 61) then 57
      else if (if s.enclave then s.secsLamU48 else s.cr3.getLsbD 62) then 48 else 64) →
    s.canonical la = true ∧
      ∀ k < 64, la.getLsbD k = (if k < width then p.getLsbD k else p.msb)

/-- With CR4.LASS = 1 in 64-bit mode, a data access at CPL 3 to a linear address with bit 63 = 1 stops with #SS(0) for
the stack segment, else #GP(0), and does not reach translation; an address with bit 63 = 0 is not stopped by LASS
(20_memory R114 to R116; the position of CR4.LASS: log 35). -/
def Obligations.LassStopsUserData : Prop :=
  ∀ (s : State) (p : Pointer) (n : Nat) (kind : AccessKind) (align : Nat) (x : Stop) (la : QWord),
    s.cr4.getLsbD 27 = true → s.in64 = true → s.cpl = 3 → linearOf s p n = .ok la →
    (la.msb = true → access s p n kind false align x =
      .error (if p.seg = .ss then .exc .ss 0 else .exc .gp 0)) ∧
    (la.msb = false → lassData s false la = true)

/-- At a CPL other than 3, or with CR4.UINTR = 0, a pending user-timer event stays pending through the boundary. At CPL 3
with CR4.UINTR = 1, processing it requests its vector in UIRR and clears it, and changes nothing else; where the
environment has no event to come, the boundary processes it: with UIF = 0 the request stays and the step goes on, with
UIF = 1, outside a guest and where no data breakpoint stops it, a user interrupt is delivered (60 R522, R523). The delivery is terminal (log 8), of the highest
request (log 38): the model's choices. -/
def Obligations.UserTimerOnlyAtCpl3 : Prop :=
  ∀ s t : State, s.userTimer.pending = true →
    (s.cpl ≠ 3 ∨ s.cr4.getLsbD 25 = false → boundary s = .ok t → t.userTimer.pending = true) ∧
    (s.cpl = 3 → s.cr4.getLsbD 25 = true →
      onEvent s .userTimer = .ok { s with
        userTimer := { s.userTimer with pending := false }
        uirr := s.uirr ||| BitVec.twoPow 64 s.userTimer.vector.toNat } ∧
      (s.env.events = [] → s.uif = false → boundary s = .ok t →
        t.userTimer.pending = false ∧ t.uirr = s.uirr ||| BitVec.twoPow 64 s.userTimer.vector.toNat) ∧
      (s.env.events = [] → s.uif = true → s.vmx ≠ .nonRoot → s.matched = [] →
        ∃ v u, boundary s = .error (.delivered (.userInterrupt v) u) ∧ u.userTimer.pending = false ∧
          u.uirr = s.uirr ||| BitVec.twoPow 64 s.userTimer.vector.toNat ∧ u.uirr.getLsbD v.toNat = true ∧
          ∀ k > v.toNat, u.uirr.getLsbD k = false))

/-- Processing a guest-timer event in a guest with the control set, outside enclave mode: the virtual timer vector's
bit of VIRR is set, RVI becomes the larger of RVI and the vector, deadline and shadow become 0; HLT is kept and every
other wait ends; between entries of RDMSRLIST or WRMSRLIST it sets RF (60 R532, R533, R534; 10_state R26). That it sets RF
there is the model's choice: R533 notes that the source does not say so of these two (log 8). -/
def Obligations.GuestTimerProcessed : Prop :=
  ∀ s : State, s.vmx = .nonRoot → s.guestTimer.control = true → s.guestTimer.pending = true → s.enclave = false →
    ∃ t, onEvent s .guestTimer = .ok t ∧
      t.guestTimer.virr = s.guestTimer.virr ||| BitVec.twoPow 256 s.guestTimer.vector.toNat ∧
      t.guestTimer.rvi.toNat = max s.guestTimer.rvi.toNat s.guestTimer.vector.toNat ∧
      t.guestTimer.deadline = 0 ∧ t.guestTimer.shadow = 0 ∧ t.guestTimer.pending = false ∧
      t.activity = (if s.activity = .hlt then .hlt else .active) ∧
      (∀ n < 64, t.rflags.getLsbD n = (s.rflags.getLsbD n || decide (n = 16) && s.midList))

/-! ## Debug registers and VM exits -/

/-- An instruction matches data breakpoint `x` exactly when DR7 enables it for data (kind 3) or for data writes (kind 1) and
one of the bytes it accesses, or writes, is one that the breakpoint watches; AADD, AAND, AOR, AXOR and CMPccXADD access
their operand as a write, the prefetch hints nothing. Breakpoints that match together, the data breakpoints of the last
instruction or the code breakpoints at RIP: a trigger unit that is enabled and selects a match of a DRx with DRx_PT_LOG = 1
pauses or resumes tracing (bit 8 of IA32_RTIT_STATUS), or leaves it alone if the units ask for both; if every DRx has
DRx_PT_LOG = 1 there is no #DB and nothing else changes, else a #DB, whose delivery is terminal (60 R561, R563, R564, R565;
10_state R35). The model's choices: the address of IA32_RTIT_STATUS (log 17), the positions of the trigger fields and that
"both" counts over the units together (log 52), the positions in DR7 and what an instruction is said to access (log 54). -/
def Obligations.DebugMatch : Prop :=
  (∀ (s t : State) (i : Instr) (x : Fin 4), x ∈ dataMatches s t i ↔
    (s.dr7.getLsbD (2 * x) = true ∨ s.dr7.getLsbD (2 * x + 1) = true) ∧
    ∃ a ∈ dataAccesses s t i, (breakKind s x = 3 ∨ breakKind s x = 1 ∧ a.write = true) ∧
      ∃ k, breakStart s x ≤ k ∧ k < breakStart s x + breakSize s x ∧ a.la.toNat ≤ k ∧ k < a.la.toNat + a.size) ∧
  (∀ (s t : State) (op : RaoOp) (c : Cond) (wide : Bool) (m : MemOp) (a b : RegNum) (la : QWord),
    linearOf s (memPointer s m) (formBytes wide) = .ok la →
    dataAccesses s t (raoInstr op wide m a) = [⟨la, formBytes wide, true⟩] ∧
    dataAccesses s t (cmpccInstr c wide m a b) = [⟨la, formBytes wide, true⟩]) ∧
  (∀ (s t : State) (m : MemOp) (i : Instr),
    i ∈ [Instr.prefetchnta m, .prefetcht0 m, .prefetcht1 m, .prefetcht2 m, .prefetchit1 m, .prefetchit0 m] →
    dataAccesses s t i = []) ∧
  (∀ s : State, dataBreaks s = onMatches s.matched { s with matched := [] } ∧
    codeBreaks s = onMatches ((List.finRange 4).filter (codeMatch s)) s) ∧
  (∀ (s : State) (xs : List (Fin 4)) (log : Fin 4 → Prop) (asks : Nat → Prop),
    (∀ x, log x ↔ s.dr7.getLsbD (s.platform.trace.debugLogBit + x) = true) →
    (∀ bit, asks bit ↔ ∃ u < (cpuidQuery s 0x14 1).eax.toNat / 2 ^ 8 % 8, ∃ x ∈ xs, log x ∧
      (triggerCfg s u).getLsbD s.platform.trace.enableBit = true ∧ triggerInput s u = some (.debugMatch x) ∧
      (triggerCfg s u).getLsbD bit = true) →
    ∃ t : State, { t with msrs := s.msrs } = s ∧
      (∀ a, a ≠ 0x571 → Store.get 0 a t.msrs = Store.get 0 a s.msrs) ∧
      (storesWf s = true → ∀ n < 64, n ≠ 8 →
        (Store.get 0 0x571 t.msrs).getLsbD n = (Store.get 0 0x571 s.msrs).getLsbD n) ∧
      (storesWf s = true → asks s.platform.trace.pauseBit → ¬ asks s.platform.trace.resumeBit →
        (Store.get 0 0x571 t.msrs).getLsbD 8 = true) ∧
      (storesWf s = true → asks s.platform.trace.resumeBit → ¬ asks s.platform.trace.pauseBit →
        (Store.get 0 0x571 t.msrs).getLsbD 8 = false) ∧
      ((asks s.platform.trace.pauseBit ↔ asks s.platform.trace.resumeBit) → t.msrs = s.msrs) ∧
      ((∀ x ∈ xs, log x) → onMatches xs s = .ok t) ∧
      ((∃ x ∈ xs, ¬ log x) →
        ∃ u, onMatches xs s = .error (.delivered (.exception .db) u) ∧ u.msrs = t.msrs))

/-- In a guest: CPUID exits with reason 10; PCONFIG with 65 where its leaf's bit asks for it; WRMSRNS with 32, RDMSRLIST with
78 and WRMSRLIST with 79 where the MSR does, URDMSR with 80 and UWRMSR with 81 likewise (in enclave mode #GP(0) instead),
MWAIT with 36 under its control, each with the instruction's length; an access that the translation answers with an EPT
violation exits with 48, the answer's qualification and length 0. The state is as before, but that IA32_SPEC_CTRL is saved
to the guest field, and the host's value loaded, as the two controls say (60 R540, R542, R545; 40 R170; 43 R261; 44 R296,
R301, R310, R311; 49 R476). PRESUMED (log 36): reason 48 and its length, MWAIT's qualification of 1 when the monitor is
armed, the qualification 0 of CPUID, PCONFIG and WRMSRNS, bit 63 of the PCONFIG bitmap for every leaf of 63 or more,
that the VM exit of WRMSRNS comes before the #GP(0) of its MSR, the instruction length, and information 0, of every exit
but those of URDMSR and UWRMSR. -/
def Obligations.VmExits : Prop :=
  ∀ s u : State, s.vmx = .nonRoot → u = vmExitState s →
    { u with vmcs := s.vmcs, msrs := s.msrs } = s ∧
    u.vmcs = (if s.vmcs.saveSpecCtrl then { s.vmcs with guestSpecCtrl := Store.get 0 0x48 s.msrs } else s.vmcs) ∧
    (s.vmcs.loadHostSpecCtrl = false → u.msrs = s.msrs) ∧
    (s.vmcs.loadHostSpecCtrl = true → storesWf s = true → Store.get 0 0x48 u.msrs = s.vmcs.hostSpecCtrl ∧
      ∀ a, a ≠ 0x48 → Store.get 0 a u.msrs = Store.get 0 a s.msrs) ∧
    exec .cpuid s = .fault (.vmExit 10 0 (s.nextRip - s.rip) 0 u) ∧
    (enumerated s .pconfig = true → s.cpl = 0 → s.vmcs.enablePconfig = true →
      s.vmcs.pconfigExiting.getLsbD (min (s.reg32 rax).toNat 63) = true →
      exec .pconfig s = .fault (.vmExit 65 0 (s.nextRip - s.rip) 0 u)) ∧
    (enumerated s .wrmsrns = true → s.cpl = 0 → msrExits s true (s.reg32 rcx).toNat = true →
      exec .wrmsrns s = .fault (.vmExit 32 0 (s.nextRip - s.rip) 0 u)) ∧
    (monitorEnabled s = true → enumerated s .monitor = true ∨ enumerated s .mwait = true → s.cpl = 0 →
      s.vmcs.mwaitExiting = true →
      exec .mwait s = .fault (.vmExit 36 (match s.monitor with | .armed _ _ => 1 | _ => 0) (s.nextRip - s.rip) 0 u)) ∧
    (∀ (i : Nat) (entry data : QWord), s.in64 = true → enumerated s .msrList = true → s.vmcs.enableMsrList = true →
      s.cpl = 0 → (s.reg rsi).toNat % 8 = 0 → (s.reg rdi).toNat % 8 = 0 → s.env.loadAhead = [] → i < 64 →
      s.reg rcx = BitVec.twoPow 64 i → readEntry s rsi i = .ok entry → entry.toNat < 2 ^ 32 →
      (msrExits s false entry.toNat = true → exec .rdmsrlist s =
        .fault (.vmExit 78 (if s.vmcs.useMsrBitmaps then entry else 0) (s.nextRip - s.rip) 0 u)) ∧
      (readEntry s rdi i = .ok data → msrExits s true entry.toNat = true → exec .wrmsrlist s =
        .fault (.vmExit 79 (if s.vmcs.useMsrBitmaps then entry else 0) (s.nextRip - s.rip) 0 u))) ∧
    (∀ (write : Bool) (r addr : RegNum) (imm : DWord) (i : Instr) (a : Nat) (byte : Byte),
      s.in64 = true → enumerated s .userMsr = true →
      (i, a) ∈ (if write then [(Instr.uwrmsrReg addr r, userMsrAddress s addr), (.uwrmsrImm imm r, imm.toNat)]
        else [(.urdmsrReg r addr, userMsrAddress s addr), (.urdmsrImm r imm, imm.toNat)]) →
      s.avxEnabled = true ∨ i ∈ [.urdmsrReg r addr, .uwrmsrReg addr r] →
      (Store.get 0 0x1C s.msrs).getLsbD 0 = true → a ≤ 0x3FFF →
      readSupervisorByte s (userBitmapByte s write a) = .ok byte → byte.getLsbD (a % 8) = true →
      (write = true → a ∈ s.platform.userMsrWritable) → userMsrExits s write a = true →
      (s.enclave = true → exec i s = .fault (.exception .gp 0 s.rip s)) ∧
      (s.enclave = false → ∃ info : DWord, info.toNat / 8 % 16 = r.toNat ∧
        exec i s = .fault (.vmExit (if write then 81 else 80) (BitVec.ofNat 64 a) (s.nextRip - s.rip) info u))) ∧
    (∀ (op : RaoOp) (wide : Bool) (m : MemOp) (r : RegNum) (la q : QWord), enumerated s .raoInt = true →
      linearOf s (memPointer s m) (formBytes wide) = .ok la → lassData s false la = true →
      la.toNat % formBytes wide = 0 →
      translatePage s .write (s.userAccess false) (la.toNat / 4096) = .eptViolation q →
      exec (raoInstr op wide m r) s = .fault (.vmExit 48 q 0 0 u))
end

