-- ==== Sys2Proof/Laws/State.lean ====
section
/-! SUPPORT. One lemma per field and update of the state, each true by unfolding: what an update writes, and that it
leaves every other field alone. -/

namespace Sys2Proof.Machine

/-! ## setReg -/

@[simp] theorem State.setReg_gpr (s : State) (r : RegNum) (v : QWord) : (s.setReg r v).gpr = s.gpr.set r.toNat v r.isLt := rfl
@[simp] theorem State.setReg_rip (s : State) (r : RegNum) (v : QWord) : (s.setReg r v).rip = s.rip := rfl
@[simp] theorem State.setReg_ripWrapped (s : State) (r : RegNum) (v : QWord) : (s.setReg r v).ripWrapped = s.ripWrapped := rfl
@[simp] theorem State.setReg_nextRip (s : State) (r : RegNum) (v : QWord) : (s.setReg r v).nextRip = s.nextRip := rfl
@[simp] theorem State.setReg_rflags (s : State) (r : RegNum) (v : QWord) : (s.setReg r v).rflags = s.rflags := rfl
@[simp] theorem State.setReg_mode (s : State) (r : RegNum) (v : QWord) : (s.setReg r v).mode = s.mode := rfl
@[simp] theorem State.setReg_cpl (s : State) (r : RegNum) (v : QWord) : (s.setReg r v).cpl = s.cpl := rfl
@[simp] theorem State.setReg_vmx (s : State) (r : RegNum) (v : QWord) : (s.setReg r v).vmx = s.vmx := rfl
@[simp] theorem State.setReg_smm (s : State) (r : RegNum) (v : QWord) : (s.setReg r v).smm = s.smm := rfl
@[simp] theorem State.setReg_enclave (s : State) (r : RegNum) (v : QWord) : (s.setReg r v).enclave = s.enclave := rfl
@[simp] theorem State.setReg_secsLamU48 (s : State) (r : RegNum) (v : QWord) : (s.setReg r v).secsLamU48 = s.secsLamU48 := rfl
@[simp] theorem State.setReg_secsLamU57 (s : State) (r : RegNum) (v : QWord) : (s.setReg r v).secsLamU57 = s.secsLamU57 := rfl
@[simp] theorem State.setReg_segs (s : State) (r : RegNum) (v : QWord) : (s.setReg r v).segs = s.segs := rfl
@[simp] theorem State.setReg_cr0 (s : State) (r : RegNum) (v : QWord) : (s.setReg r v).cr0 = s.cr0 := rfl
@[simp] theorem State.setReg_cr2 (s : State) (r : RegNum) (v : QWord) : (s.setReg r v).cr2 = s.cr2 := rfl
@[simp] theorem State.setReg_cr3 (s : State) (r : RegNum) (v : QWord) : (s.setReg r v).cr3 = s.cr3 := rfl
@[simp] theorem State.setReg_cr4 (s : State) (r : RegNum) (v : QWord) : (s.setReg r v).cr4 = s.cr4 := rfl
@[simp] theorem State.setReg_xcr0 (s : State) (r : RegNum) (v : QWord) : (s.setReg r v).xcr0 = s.xcr0 := rfl
@[simp] theorem State.setReg_dr0 (s : State) (r : RegNum) (v : QWord) : (s.setReg r v).dr0 = s.dr0 := rfl
@[simp] theorem State.setReg_dr1 (s : State) (r : RegNum) (v : QWord) : (s.setReg r v).dr1 = s.dr1 := rfl
@[simp] theorem State.setReg_dr2 (s : State) (r : RegNum) (v : QWord) : (s.setReg r v).dr2 = s.dr2 := rfl
@[simp] theorem State.setReg_dr3 (s : State) (r : RegNum) (v : QWord) : (s.setReg r v).dr3 = s.dr3 := rfl
@[simp] theorem State.setReg_dr7 (s : State) (r : RegNum) (v : QWord) : (s.setReg r v).dr7 = s.dr7 := rfl
@[simp] theorem State.setReg_uif (s : State) (r : RegNum) (v : QWord) : (s.setReg r v).uif = s.uif := rfl
@[simp] theorem State.setReg_mxcsr (s : State) (r : RegNum) (v : QWord) : (s.setReg r v).mxcsr = s.mxcsr := rfl
@[simp] theorem State.setReg_vregs (s : State) (r : RegNum) (v : QWord) : (s.setReg r v).vregs = s.vregs := rfl
@[simp] theorem State.setReg_tilecfg (s : State) (r : RegNum) (v : QWord) : (s.setReg r v).tilecfg = s.tilecfg := rfl
@[simp] theorem State.setReg_tiles (s : State) (r : RegNum) (v : QWord) : (s.setReg r v).tiles = s.tiles := rfl
@[simp] theorem State.setReg_msrs (s : State) (r : RegNum) (v : QWord) : (s.setReg r v).msrs = s.msrs := rfl
@[simp] theorem State.setReg_tsc (s : State) (r : RegNum) (v : QWord) : (s.setReg r v).tsc = s.tsc := rfl
@[simp] theorem State.setReg_userTimer (s : State) (r : RegNum) (v : QWord) : (s.setReg r v).userTimer = s.userTimer := rfl
@[simp] theorem State.setReg_uirr (s : State) (r : RegNum) (v : QWord) : (s.setReg r v).uirr = s.uirr := rfl
@[simp] theorem State.setReg_guestTimer (s : State) (r : RegNum) (v : QWord) : (s.setReg r v).guestTimer = s.guestTimer := rfl
@[simp] theorem State.setReg_fixedCtr0 (s : State) (r : RegNum) (v : QWord) : (s.setReg r v).fixedCtr0 = s.fixedCtr0 := rfl
@[simp] theorem State.setReg_pmuRunning (s : State) (r : RegNum) (v : QWord) : (s.setReg r v).pmuRunning = s.pmuRunning := rfl
@[simp] theorem State.setReg_tmeKeys (s : State) (r : RegNum) (v : QWord) : (s.setReg r v).tmeKeys = s.tmeKeys := rfl
@[simp] theorem State.setReg_tseKeys (s : State) (r : RegNum) (v : QWord) : (s.setReg r v).tseKeys = s.tseKeys := rfl
@[simp] theorem State.setReg_monitor (s : State) (r : RegNum) (v : QWord) : (s.setReg r v).monitor = s.monitor := rfl
@[simp] theorem State.setReg_activity (s : State) (r : RegNum) (v : QWord) : (s.setReg r v).activity = s.activity := rfl
@[simp] theorem State.setReg_midList (s : State) (r : RegNum) (v : QWord) : (s.setReg r v).midList = s.midList := rfl
@[simp] theorem State.setReg_matched (s : State) (r : RegNum) (v : QWord) : (s.setReg r v).matched = s.matched := rfl
@[simp] theorem State.setReg_rao (s : State) (r : RegNum) (v : QWord) : (s.setReg r v).rao = s.rao := rfl
@[simp] theorem State.setReg_vmcs (s : State) (r : RegNum) (v : QWord) : (s.setReg r v).vmcs = s.vmcs := rfl
@[simp] theorem State.setReg_mem (s : State) (r : RegNum) (v : QWord) : (s.setReg r v).mem = s.mem := rfl
@[simp] theorem State.setReg_platform (s : State) (r : RegNum) (v : QWord) : (s.setReg r v).platform = s.platform := rfl
@[simp] theorem State.setReg_env (s : State) (r : RegNum) (v : QWord) : (s.setReg r v).env = s.env := rfl
@[simp] theorem State.setReg_pebs (s : State) (r : RegNum) (v : QWord) : (s.setReg r v).pebs = s.pebs := rfl
@[simp] theorem State.setReg_draws (s : State) (r : RegNum) (v : QWord) : (s.setReg r v).draws = s.draws := rfl

/-! ## setReg32 -/

@[simp] theorem State.setReg32_rip (s : State) (r : RegNum) (v : DWord) : (s.setReg32 r v).rip = s.rip := rfl
@[simp] theorem State.setReg32_ripWrapped (s : State) (r : RegNum) (v : DWord) : (s.setReg32 r v).ripWrapped = s.ripWrapped := rfl
@[simp] theorem State.setReg32_nextRip (s : State) (r : RegNum) (v : DWord) : (s.setReg32 r v).nextRip = s.nextRip := rfl
@[simp] theorem State.setReg32_rflags (s : State) (r : RegNum) (v : DWord) : (s.setReg32 r v).rflags = s.rflags := rfl
@[simp] theorem State.setReg32_mode (s : State) (r : RegNum) (v : DWord) : (s.setReg32 r v).mode = s.mode := rfl
@[simp] theorem State.setReg32_cpl (s : State) (r : RegNum) (v : DWord) : (s.setReg32 r v).cpl = s.cpl := rfl
@[simp] theorem State.setReg32_vmx (s : State) (r : RegNum) (v : DWord) : (s.setReg32 r v).vmx = s.vmx := rfl
@[simp] theorem State.setReg32_smm (s : State) (r : RegNum) (v : DWord) : (s.setReg32 r v).smm = s.smm := rfl
@[simp] theorem State.setReg32_enclave (s : State) (r : RegNum) (v : DWord) : (s.setReg32 r v).enclave = s.enclave := rfl
@[simp] theorem State.setReg32_secsLamU48 (s : State) (r : RegNum) (v : DWord) : (s.setReg32 r v).secsLamU48 = s.secsLamU48 := rfl
@[simp] theorem State.setReg32_secsLamU57 (s : State) (r : RegNum) (v : DWord) : (s.setReg32 r v).secsLamU57 = s.secsLamU57 := rfl
@[simp] theorem State.setReg32_segs (s : State) (r : RegNum) (v : DWord) : (s.setReg32 r v).segs = s.segs := rfl
@[simp] theorem State.setReg32_cr0 (s : State) (r : RegNum) (v : DWord) : (s.setReg32 r v).cr0 = s.cr0 := rfl
@[simp] theorem State.setReg32_cr2 (s : State) (r : RegNum) (v : DWord) : (s.setReg32 r v).cr2 = s.cr2 := rfl
@[simp] theorem State.setReg32_cr3 (s : State) (r : RegNum) (v : DWord) : (s.setReg32 r v).cr3 = s.cr3 := rfl
@[simp] theorem State.setReg32_cr4 (s : State) (r : RegNum) (v : DWord) : (s.setReg32 r v).cr4 = s.cr4 := rfl
@[simp] theorem State.setReg32_xcr0 (s : State) (r : RegNum) (v : DWord) : (s.setReg32 r v).xcr0 = s.xcr0 := rfl
@[simp] theorem State.setReg32_dr0 (s : State) (r : RegNum) (v : DWord) : (s.setReg32 r v).dr0 = s.dr0 := rfl
@[simp] theorem State.setReg32_dr1 (s : State) (r : RegNum) (v : DWord) : (s.setReg32 r v).dr1 = s.dr1 := rfl
@[simp] theorem State.setReg32_dr2 (s : State) (r : RegNum) (v : DWord) : (s.setReg32 r v).dr2 = s.dr2 := rfl
@[simp] theorem State.setReg32_dr3 (s : State) (r : RegNum) (v : DWord) : (s.setReg32 r v).dr3 = s.dr3 := rfl
@[simp] theorem State.setReg32_dr7 (s : State) (r : RegNum) (v : DWord) : (s.setReg32 r v).dr7 = s.dr7 := rfl
@[simp] theorem State.setReg32_uif (s : State) (r : RegNum) (v : DWord) : (s.setReg32 r v).uif = s.uif := rfl
@[simp] theorem State.setReg32_mxcsr (s : State) (r : RegNum) (v : DWord) : (s.setReg32 r v).mxcsr = s.mxcsr := rfl
@[simp] theorem State.setReg32_vregs (s : State) (r : RegNum) (v : DWord) : (s.setReg32 r v).vregs = s.vregs := rfl
@[simp] theorem State.setReg32_tilecfg (s : State) (r : RegNum) (v : DWord) : (s.setReg32 r v).tilecfg = s.tilecfg := rfl
@[simp] theorem State.setReg32_tiles (s : State) (r : RegNum) (v : DWord) : (s.setReg32 r v).tiles = s.tiles := rfl
@[simp] theorem State.setReg32_msrs (s : State) (r : RegNum) (v : DWord) : (s.setReg32 r v).msrs = s.msrs := rfl
@[simp] theorem State.setReg32_tsc (s : State) (r : RegNum) (v : DWord) : (s.setReg32 r v).tsc = s.tsc := rfl
@[simp] theorem State.setReg32_userTimer (s : State) (r : RegNum) (v : DWord) : (s.setReg32 r v).userTimer = s.userTimer := rfl
@[simp] theorem State.setReg32_uirr (s : State) (r : RegNum) (v : DWord) : (s.setReg32 r v).uirr = s.uirr := rfl
@[simp] theorem State.setReg32_guestTimer (s : State) (r : RegNum) (v : DWord) : (s.setReg32 r v).guestTimer = s.guestTimer := rfl
@[simp] theorem State.setReg32_fixedCtr0 (s : State) (r : RegNum) (v : DWord) : (s.setReg32 r v).fixedCtr0 = s.fixedCtr0 := rfl
@[simp] theorem State.setReg32_pmuRunning (s : State) (r : RegNum) (v : DWord) : (s.setReg32 r v).pmuRunning = s.pmuRunning := rfl
@[simp] theorem State.setReg32_tmeKeys (s : State) (r : RegNum) (v : DWord) : (s.setReg32 r v).tmeKeys = s.tmeKeys := rfl
@[simp] theorem State.setReg32_tseKeys (s : State) (r : RegNum) (v : DWord) : (s.setReg32 r v).tseKeys = s.tseKeys := rfl
@[simp] theorem State.setReg32_monitor (s : State) (r : RegNum) (v : DWord) : (s.setReg32 r v).monitor = s.monitor := rfl
@[simp] theorem State.setReg32_activity (s : State) (r : RegNum) (v : DWord) : (s.setReg32 r v).activity = s.activity := rfl
@[simp] theorem State.setReg32_midList (s : State) (r : RegNum) (v : DWord) : (s.setReg32 r v).midList = s.midList := rfl
@[simp] theorem State.setReg32_matched (s : State) (r : RegNum) (v : DWord) : (s.setReg32 r v).matched = s.matched := rfl
@[simp] theorem State.setReg32_rao (s : State) (r : RegNum) (v : DWord) : (s.setReg32 r v).rao = s.rao := rfl
@[simp] theorem State.setReg32_vmcs (s : State) (r : RegNum) (v : DWord) : (s.setReg32 r v).vmcs = s.vmcs := rfl
@[simp] theorem State.setReg32_mem (s : State) (r : RegNum) (v : DWord) : (s.setReg32 r v).mem = s.mem := rfl
@[simp] theorem State.setReg32_platform (s : State) (r : RegNum) (v : DWord) : (s.setReg32 r v).platform = s.platform := rfl
@[simp] theorem State.setReg32_env (s : State) (r : RegNum) (v : DWord) : (s.setReg32 r v).env = s.env := rfl
@[simp] theorem State.setReg32_pebs (s : State) (r : RegNum) (v : DWord) : (s.setReg32 r v).pebs = s.pebs := rfl
@[simp] theorem State.setReg32_draws (s : State) (r : RegNum) (v : DWord) : (s.setReg32 r v).draws = s.draws := rfl

/-! ## setVreg -/

@[simp] theorem State.setVreg_gpr (s : State) (r : RegNum) (v : Vec) : (s.setVreg r v).gpr = s.gpr := rfl
@[simp] theorem State.setVreg_rip (s : State) (r : RegNum) (v : Vec) : (s.setVreg r v).rip = s.rip := rfl
@[simp] theorem State.setVreg_ripWrapped (s : State) (r : RegNum) (v : Vec) : (s.setVreg r v).ripWrapped = s.ripWrapped := rfl
@[simp] theorem State.setVreg_nextRip (s : State) (r : RegNum) (v : Vec) : (s.setVreg r v).nextRip = s.nextRip := rfl
@[simp] theorem State.setVreg_rflags (s : State) (r : RegNum) (v : Vec) : (s.setVreg r v).rflags = s.rflags := rfl
@[simp] theorem State.setVreg_mode (s : State) (r : RegNum) (v : Vec) : (s.setVreg r v).mode = s.mode := rfl
@[simp] theorem State.setVreg_cpl (s : State) (r : RegNum) (v : Vec) : (s.setVreg r v).cpl = s.cpl := rfl
@[simp] theorem State.setVreg_vmx (s : State) (r : RegNum) (v : Vec) : (s.setVreg r v).vmx = s.vmx := rfl
@[simp] theorem State.setVreg_smm (s : State) (r : RegNum) (v : Vec) : (s.setVreg r v).smm = s.smm := rfl
@[simp] theorem State.setVreg_enclave (s : State) (r : RegNum) (v : Vec) : (s.setVreg r v).enclave = s.enclave := rfl
@[simp] theorem State.setVreg_secsLamU48 (s : State) (r : RegNum) (v : Vec) : (s.setVreg r v).secsLamU48 = s.secsLamU48 := rfl
@[simp] theorem State.setVreg_secsLamU57 (s : State) (r : RegNum) (v : Vec) : (s.setVreg r v).secsLamU57 = s.secsLamU57 := rfl
@[simp] theorem State.setVreg_segs (s : State) (r : RegNum) (v : Vec) : (s.setVreg r v).segs = s.segs := rfl
@[simp] theorem State.setVreg_cr0 (s : State) (r : RegNum) (v : Vec) : (s.setVreg r v).cr0 = s.cr0 := rfl
@[simp] theorem State.setVreg_cr2 (s : State) (r : RegNum) (v : Vec) : (s.setVreg r v).cr2 = s.cr2 := rfl
@[simp] theorem State.setVreg_cr3 (s : State) (r : RegNum) (v : Vec) : (s.setVreg r v).cr3 = s.cr3 := rfl
@[simp] theorem State.setVreg_cr4 (s : State) (r : RegNum) (v : Vec) : (s.setVreg r v).cr4 = s.cr4 := rfl
@[simp] theorem State.setVreg_xcr0 (s : State) (r : RegNum) (v : Vec) : (s.setVreg r v).xcr0 = s.xcr0 := rfl
@[simp] theorem State.setVreg_dr0 (s : State) (r : RegNum) (v : Vec) : (s.setVreg r v).dr0 = s.dr0 := rfl
@[simp] theorem State.setVreg_dr1 (s : State) (r : RegNum) (v : Vec) : (s.setVreg r v).dr1 = s.dr1 := rfl
@[simp] theorem State.setVreg_dr2 (s : State) (r : RegNum) (v : Vec) : (s.setVreg r v).dr2 = s.dr2 := rfl
@[simp] theorem State.setVreg_dr3 (s : State) (r : RegNum) (v : Vec) : (s.setVreg r v).dr3 = s.dr3 := rfl
@[simp] theorem State.setVreg_dr7 (s : State) (r : RegNum) (v : Vec) : (s.setVreg r v).dr7 = s.dr7 := rfl
@[simp] theorem State.setVreg_uif (s : State) (r : RegNum) (v : Vec) : (s.setVreg r v).uif = s.uif := rfl
@[simp] theorem State.setVreg_mxcsr (s : State) (r : RegNum) (v : Vec) : (s.setVreg r v).mxcsr = s.mxcsr := rfl
@[simp] theorem State.setVreg_vregs (s : State) (r : RegNum) (v : Vec) : (s.setVreg r v).vregs = s.vregs.set r.toNat v r.isLt := rfl
@[simp] theorem State.setVreg_tilecfg (s : State) (r : RegNum) (v : Vec) : (s.setVreg r v).tilecfg = s.tilecfg := rfl
@[simp] theorem State.setVreg_tiles (s : State) (r : RegNum) (v : Vec) : (s.setVreg r v).tiles = s.tiles := rfl
@[simp] theorem State.setVreg_msrs (s : State) (r : RegNum) (v : Vec) : (s.setVreg r v).msrs = s.msrs := rfl
@[simp] theorem State.setVreg_tsc (s : State) (r : RegNum) (v : Vec) : (s.setVreg r v).tsc = s.tsc := rfl
@[simp] theorem State.setVreg_userTimer (s : State) (r : RegNum) (v : Vec) : (s.setVreg r v).userTimer = s.userTimer := rfl
@[simp] theorem State.setVreg_uirr (s : State) (r : RegNum) (v : Vec) : (s.setVreg r v).uirr = s.uirr := rfl
@[simp] theorem State.setVreg_guestTimer (s : State) (r : RegNum) (v : Vec) : (s.setVreg r v).guestTimer = s.guestTimer := rfl
@[simp] theorem State.setVreg_fixedCtr0 (s : State) (r : RegNum) (v : Vec) : (s.setVreg r v).fixedCtr0 = s.fixedCtr0 := rfl
@[simp] theorem State.setVreg_pmuRunning (s : State) (r : RegNum) (v : Vec) : (s.setVreg r v).pmuRunning = s.pmuRunning := rfl
@[simp] theorem State.setVreg_tmeKeys (s : State) (r : RegNum) (v : Vec) : (s.setVreg r v).tmeKeys = s.tmeKeys := rfl
@[simp] theorem State.setVreg_tseKeys (s : State) (r : RegNum) (v : Vec) : (s.setVreg r v).tseKeys = s.tseKeys := rfl
@[simp] theorem State.setVreg_monitor (s : State) (r : RegNum) (v : Vec) : (s.setVreg r v).monitor = s.monitor := rfl
@[simp] theorem State.setVreg_activity (s : State) (r : RegNum) (v : Vec) : (s.setVreg r v).activity = s.activity := rfl
@[simp] theorem State.setVreg_midList (s : State) (r : RegNum) (v : Vec) : (s.setVreg r v).midList = s.midList := rfl
@[simp] theorem State.setVreg_matched (s : State) (r : RegNum) (v : Vec) : (s.setVreg r v).matched = s.matched := rfl
@[simp] theorem State.setVreg_rao (s : State) (r : RegNum) (v : Vec) : (s.setVreg r v).rao = s.rao := rfl
@[simp] theorem State.setVreg_vmcs (s : State) (r : RegNum) (v : Vec) : (s.setVreg r v).vmcs = s.vmcs := rfl
@[simp] theorem State.setVreg_mem (s : State) (r : RegNum) (v : Vec) : (s.setVreg r v).mem = s.mem := rfl
@[simp] theorem State.setVreg_platform (s : State) (r : RegNum) (v : Vec) : (s.setVreg r v).platform = s.platform := rfl
@[simp] theorem State.setVreg_env (s : State) (r : RegNum) (v : Vec) : (s.setVreg r v).env = s.env := rfl
@[simp] theorem State.setVreg_pebs (s : State) (r : RegNum) (v : Vec) : (s.setVreg r v).pebs = s.pebs := rfl
@[simp] theorem State.setVreg_draws (s : State) (r : RegNum) (v : Vec) : (s.setVreg r v).draws = s.draws := rfl

/-! ## retireTo -/

@[simp] theorem State.retireTo_gpr (s : State) (pc : QWord) : (s.retireTo pc).gpr = s.gpr := rfl
@[simp] theorem State.retireTo_rip (s : State) (pc : QWord) : (s.retireTo pc).rip = pc := rfl
@[simp] theorem State.retireTo_ripWrapped (s : State) (pc : QWord) : (s.retireTo pc).ripWrapped = false := rfl
@[simp] theorem State.retireTo_nextRip (s : State) (pc : QWord) : (s.retireTo pc).nextRip = s.nextRip := rfl
@[simp] theorem State.retireTo_rflags (s : State) (pc : QWord) : (s.retireTo pc).rflags = s.rflags := rfl
@[simp] theorem State.retireTo_mode (s : State) (pc : QWord) : (s.retireTo pc).mode = s.mode := rfl
@[simp] theorem State.retireTo_cpl (s : State) (pc : QWord) : (s.retireTo pc).cpl = s.cpl := rfl
@[simp] theorem State.retireTo_vmx (s : State) (pc : QWord) : (s.retireTo pc).vmx = s.vmx := rfl
@[simp] theorem State.retireTo_smm (s : State) (pc : QWord) : (s.retireTo pc).smm = s.smm := rfl
@[simp] theorem State.retireTo_enclave (s : State) (pc : QWord) : (s.retireTo pc).enclave = s.enclave := rfl
@[simp] theorem State.retireTo_secsLamU48 (s : State) (pc : QWord) : (s.retireTo pc).secsLamU48 = s.secsLamU48 := rfl
@[simp] theorem State.retireTo_secsLamU57 (s : State) (pc : QWord) : (s.retireTo pc).secsLamU57 = s.secsLamU57 := rfl
@[simp] theorem State.retireTo_segs (s : State) (pc : QWord) : (s.retireTo pc).segs = s.segs := rfl
@[simp] theorem State.retireTo_cr0 (s : State) (pc : QWord) : (s.retireTo pc).cr0 = s.cr0 := rfl
@[simp] theorem State.retireTo_cr2 (s : State) (pc : QWord) : (s.retireTo pc).cr2 = s.cr2 := rfl
@[simp] theorem State.retireTo_cr3 (s : State) (pc : QWord) : (s.retireTo pc).cr3 = s.cr3 := rfl
@[simp] theorem State.retireTo_cr4 (s : State) (pc : QWord) : (s.retireTo pc).cr4 = s.cr4 := rfl
@[simp] theorem State.retireTo_xcr0 (s : State) (pc : QWord) : (s.retireTo pc).xcr0 = s.xcr0 := rfl
@[simp] theorem State.retireTo_dr0 (s : State) (pc : QWord) : (s.retireTo pc).dr0 = s.dr0 := rfl
@[simp] theorem State.retireTo_dr1 (s : State) (pc : QWord) : (s.retireTo pc).dr1 = s.dr1 := rfl
@[simp] theorem State.retireTo_dr2 (s : State) (pc : QWord) : (s.retireTo pc).dr2 = s.dr2 := rfl
@[simp] theorem State.retireTo_dr3 (s : State) (pc : QWord) : (s.retireTo pc).dr3 = s.dr3 := rfl
@[simp] theorem State.retireTo_dr7 (s : State) (pc : QWord) : (s.retireTo pc).dr7 = s.dr7 := rfl
@[simp] theorem State.retireTo_uif (s : State) (pc : QWord) : (s.retireTo pc).uif = s.uif := rfl
@[simp] theorem State.retireTo_mxcsr (s : State) (pc : QWord) : (s.retireTo pc).mxcsr = s.mxcsr := rfl
@[simp] theorem State.retireTo_vregs (s : State) (pc : QWord) : (s.retireTo pc).vregs = s.vregs := rfl
@[simp] theorem State.retireTo_tilecfg (s : State) (pc : QWord) : (s.retireTo pc).tilecfg = s.tilecfg := rfl
@[simp] theorem State.retireTo_tiles (s : State) (pc : QWord) : (s.retireTo pc).tiles = s.tiles := rfl
@[simp] theorem State.retireTo_msrs (s : State) (pc : QWord) : (s.retireTo pc).msrs = s.msrs := rfl
@[simp] theorem State.retireTo_tsc (s : State) (pc : QWord) : (s.retireTo pc).tsc = s.tsc := rfl
@[simp] theorem State.retireTo_userTimer (s : State) (pc : QWord) : (s.retireTo pc).userTimer = s.userTimer := rfl
@[simp] theorem State.retireTo_uirr (s : State) (pc : QWord) : (s.retireTo pc).uirr = s.uirr := rfl
@[simp] theorem State.retireTo_guestTimer (s : State) (pc : QWord) : (s.retireTo pc).guestTimer = s.guestTimer := rfl
@[simp] theorem State.retireTo_fixedCtr0 (s : State) (pc : QWord) : (s.retireTo pc).fixedCtr0 = if s.pmuRunning then s.fixedCtr0 + 1 else s.fixedCtr0 := rfl
@[simp] theorem State.retireTo_pmuRunning (s : State) (pc : QWord) : (s.retireTo pc).pmuRunning = s.pmuRunning := rfl
@[simp] theorem State.retireTo_tmeKeys (s : State) (pc : QWord) : (s.retireTo pc).tmeKeys = s.tmeKeys := rfl
@[simp] theorem State.retireTo_tseKeys (s : State) (pc : QWord) : (s.retireTo pc).tseKeys = s.tseKeys := rfl
@[simp] theorem State.retireTo_monitor (s : State) (pc : QWord) : (s.retireTo pc).monitor = s.monitor := rfl
@[simp] theorem State.retireTo_activity (s : State) (pc : QWord) : (s.retireTo pc).activity = s.activity := rfl
@[simp] theorem State.retireTo_midList (s : State) (pc : QWord) : (s.retireTo pc).midList = s.midList := rfl
@[simp] theorem State.retireTo_matched (s : State) (pc : QWord) : (s.retireTo pc).matched = s.matched := rfl
@[simp] theorem State.retireTo_rao (s : State) (pc : QWord) : (s.retireTo pc).rao = s.rao := rfl
@[simp] theorem State.retireTo_vmcs (s : State) (pc : QWord) : (s.retireTo pc).vmcs = s.vmcs := rfl
@[simp] theorem State.retireTo_mem (s : State) (pc : QWord) : (s.retireTo pc).mem = s.mem := rfl
@[simp] theorem State.retireTo_platform (s : State) (pc : QWord) : (s.retireTo pc).platform = s.platform := rfl
@[simp] theorem State.retireTo_env (s : State) (pc : QWord) : (s.retireTo pc).env = s.env := rfl
@[simp] theorem State.retireTo_pebs (s : State) (pc : QWord) : (s.retireTo pc).pebs = s.pebs := rfl
@[simp] theorem State.retireTo_draws (s : State) (pc : QWord) : (s.retireTo pc).draws = s.draws := rfl

/-! ## retire -/

@[simp] theorem State.retire_gpr (s : State) : (s.retire).gpr = s.gpr := rfl
@[simp] theorem State.retire_rip (s : State) : (s.retire).rip = s.nextRip := rfl
@[simp] theorem State.retire_ripWrapped (s : State) : (s.retire).ripWrapped = s.nextWraps := rfl
@[simp] theorem State.retire_nextRip (s : State) : (s.retire).nextRip = s.nextRip := rfl
@[simp] theorem State.retire_rflags (s : State) : (s.retire).rflags = s.rflags := rfl
@[simp] theorem State.retire_mode (s : State) : (s.retire).mode = s.mode := rfl
@[simp] theorem State.retire_cpl (s : State) : (s.retire).cpl = s.cpl := rfl
@[simp] theorem State.retire_vmx (s : State) : (s.retire).vmx = s.vmx := rfl
@[simp] theorem State.retire_smm (s : State) : (s.retire).smm = s.smm := rfl
@[simp] theorem State.retire_enclave (s : State) : (s.retire).enclave = s.enclave := rfl
@[simp] theorem State.retire_secsLamU48 (s : State) : (s.retire).secsLamU48 = s.secsLamU48 := rfl
@[simp] theorem State.retire_secsLamU57 (s : State) : (s.retire).secsLamU57 = s.secsLamU57 := rfl
@[simp] theorem State.retire_segs (s : State) : (s.retire).segs = s.segs := rfl
@[simp] theorem State.retire_cr0 (s : State) : (s.retire).cr0 = s.cr0 := rfl
@[simp] theorem State.retire_cr2 (s : State) : (s.retire).cr2 = s.cr2 := rfl
@[simp] theorem State.retire_cr3 (s : State) : (s.retire).cr3 = s.cr3 := rfl
@[simp] theorem State.retire_cr4 (s : State) : (s.retire).cr4 = s.cr4 := rfl
@[simp] theorem State.retire_xcr0 (s : State) : (s.retire).xcr0 = s.xcr0 := rfl
@[simp] theorem State.retire_dr0 (s : State) : (s.retire).dr0 = s.dr0 := rfl
@[simp] theorem State.retire_dr1 (s : State) : (s.retire).dr1 = s.dr1 := rfl
@[simp] theorem State.retire_dr2 (s : State) : (s.retire).dr2 = s.dr2 := rfl
@[simp] theorem State.retire_dr3 (s : State) : (s.retire).dr3 = s.dr3 := rfl
@[simp] theorem State.retire_dr7 (s : State) : (s.retire).dr7 = s.dr7 := rfl
@[simp] theorem State.retire_uif (s : State) : (s.retire).uif = s.uif := rfl
@[simp] theorem State.retire_mxcsr (s : State) : (s.retire).mxcsr = s.mxcsr := rfl
@[simp] theorem State.retire_vregs (s : State) : (s.retire).vregs = s.vregs := rfl
@[simp] theorem State.retire_tilecfg (s : State) : (s.retire).tilecfg = s.tilecfg := rfl
@[simp] theorem State.retire_tiles (s : State) : (s.retire).tiles = s.tiles := rfl
@[simp] theorem State.retire_msrs (s : State) : (s.retire).msrs = s.msrs := rfl
@[simp] theorem State.retire_tsc (s : State) : (s.retire).tsc = s.tsc := rfl
@[simp] theorem State.retire_userTimer (s : State) : (s.retire).userTimer = s.userTimer := rfl
@[simp] theorem State.retire_uirr (s : State) : (s.retire).uirr = s.uirr := rfl
@[simp] theorem State.retire_guestTimer (s : State) : (s.retire).guestTimer = s.guestTimer := rfl
@[simp] theorem State.retire_fixedCtr0 (s : State) : (s.retire).fixedCtr0 = if s.pmuRunning then s.fixedCtr0 + 1 else s.fixedCtr0 := rfl
@[simp] theorem State.retire_pmuRunning (s : State) : (s.retire).pmuRunning = s.pmuRunning := rfl
@[simp] theorem State.retire_tmeKeys (s : State) : (s.retire).tmeKeys = s.tmeKeys := rfl
@[simp] theorem State.retire_tseKeys (s : State) : (s.retire).tseKeys = s.tseKeys := rfl
@[simp] theorem State.retire_monitor (s : State) : (s.retire).monitor = s.monitor := rfl
@[simp] theorem State.retire_activity (s : State) : (s.retire).activity = s.activity := rfl
@[simp] theorem State.retire_midList (s : State) : (s.retire).midList = s.midList := rfl
@[simp] theorem State.retire_matched (s : State) : (s.retire).matched = s.matched := rfl
@[simp] theorem State.retire_rao (s : State) : (s.retire).rao = s.rao := rfl
@[simp] theorem State.retire_vmcs (s : State) : (s.retire).vmcs = s.vmcs := rfl
@[simp] theorem State.retire_mem (s : State) : (s.retire).mem = s.mem := rfl
@[simp] theorem State.retire_platform (s : State) : (s.retire).platform = s.platform := rfl
@[simp] theorem State.retire_env (s : State) : (s.retire).env = s.env := rfl
@[simp] theorem State.retire_pebs (s : State) : (s.retire).pebs = s.pebs := rfl
@[simp] theorem State.retire_draws (s : State) : (s.retire).draws = s.draws := rfl

/-! ## withNext -/

@[simp] theorem State.withNext_gpr (s : State) (n : Nat) : (s.withNext n).gpr = s.gpr := rfl
@[simp] theorem State.withNext_rip (s : State) (n : Nat) : (s.withNext n).rip = s.rip := rfl
@[simp] theorem State.withNext_ripWrapped (s : State) (n : Nat) : (s.withNext n).ripWrapped = s.ripWrapped := rfl
@[simp] theorem State.withNext_nextRip (s : State) (n : Nat) : (s.withNext n).nextRip = nextRipOf s n := rfl
@[simp] theorem State.withNext_rflags (s : State) (n : Nat) : (s.withNext n).rflags = s.rflags := rfl
@[simp] theorem State.withNext_mode (s : State) (n : Nat) : (s.withNext n).mode = s.mode := rfl
@[simp] theorem State.withNext_cpl (s : State) (n : Nat) : (s.withNext n).cpl = s.cpl := rfl
@[simp] theorem State.withNext_vmx (s : State) (n : Nat) : (s.withNext n).vmx = s.vmx := rfl
@[simp] theorem State.withNext_smm (s : State) (n : Nat) : (s.withNext n).smm = s.smm := rfl
@[simp] theorem State.withNext_enclave (s : State) (n : Nat) : (s.withNext n).enclave = s.enclave := rfl
@[simp] theorem State.withNext_secsLamU48 (s : State) (n : Nat) : (s.withNext n).secsLamU48 = s.secsLamU48 := rfl
@[simp] theorem State.withNext_secsLamU57 (s : State) (n : Nat) : (s.withNext n).secsLamU57 = s.secsLamU57 := rfl
@[simp] theorem State.withNext_segs (s : State) (n : Nat) : (s.withNext n).segs = s.segs := rfl
@[simp] theorem State.withNext_cr0 (s : State) (n : Nat) : (s.withNext n).cr0 = s.cr0 := rfl
@[simp] theorem State.withNext_cr2 (s : State) (n : Nat) : (s.withNext n).cr2 = s.cr2 := rfl
@[simp] theorem State.withNext_cr3 (s : State) (n : Nat) : (s.withNext n).cr3 = s.cr3 := rfl
@[simp] theorem State.withNext_cr4 (s : State) (n : Nat) : (s.withNext n).cr4 = s.cr4 := rfl
@[simp] theorem State.withNext_xcr0 (s : State) (n : Nat) : (s.withNext n).xcr0 = s.xcr0 := rfl
@[simp] theorem State.withNext_dr0 (s : State) (n : Nat) : (s.withNext n).dr0 = s.dr0 := rfl
@[simp] theorem State.withNext_dr1 (s : State) (n : Nat) : (s.withNext n).dr1 = s.dr1 := rfl
@[simp] theorem State.withNext_dr2 (s : State) (n : Nat) : (s.withNext n).dr2 = s.dr2 := rfl
@[simp] theorem State.withNext_dr3 (s : State) (n : Nat) : (s.withNext n).dr3 = s.dr3 := rfl
@[simp] theorem State.withNext_dr7 (s : State) (n : Nat) : (s.withNext n).dr7 = s.dr7 := rfl
@[simp] theorem State.withNext_uif (s : State) (n : Nat) : (s.withNext n).uif = s.uif := rfl
@[simp] theorem State.withNext_mxcsr (s : State) (n : Nat) : (s.withNext n).mxcsr = s.mxcsr := rfl
@[simp] theorem State.withNext_vregs (s : State) (n : Nat) : (s.withNext n).vregs = s.vregs := rfl
@[simp] theorem State.withNext_tilecfg (s : State) (n : Nat) : (s.withNext n).tilecfg = s.tilecfg := rfl
@[simp] theorem State.withNext_tiles (s : State) (n : Nat) : (s.withNext n).tiles = s.tiles := rfl
@[simp] theorem State.withNext_msrs (s : State) (n : Nat) : (s.withNext n).msrs = s.msrs := rfl
@[simp] theorem State.withNext_tsc (s : State) (n : Nat) : (s.withNext n).tsc = s.tsc := rfl
@[simp] theorem State.withNext_userTimer (s : State) (n : Nat) : (s.withNext n).userTimer = s.userTimer := rfl
@[simp] theorem State.withNext_uirr (s : State) (n : Nat) : (s.withNext n).uirr = s.uirr := rfl
@[simp] theorem State.withNext_guestTimer (s : State) (n : Nat) : (s.withNext n).guestTimer = s.guestTimer := rfl
@[simp] theorem State.withNext_fixedCtr0 (s : State) (n : Nat) : (s.withNext n).fixedCtr0 = s.fixedCtr0 := rfl
@[simp] theorem State.withNext_pmuRunning (s : State) (n : Nat) : (s.withNext n).pmuRunning = s.pmuRunning := rfl
@[simp] theorem State.withNext_tmeKeys (s : State) (n : Nat) : (s.withNext n).tmeKeys = s.tmeKeys := rfl
@[simp] theorem State.withNext_tseKeys (s : State) (n : Nat) : (s.withNext n).tseKeys = s.tseKeys := rfl
@[simp] theorem State.withNext_monitor (s : State) (n : Nat) : (s.withNext n).monitor = s.monitor := rfl
@[simp] theorem State.withNext_activity (s : State) (n : Nat) : (s.withNext n).activity = s.activity := rfl
@[simp] theorem State.withNext_midList (s : State) (n : Nat) : (s.withNext n).midList = s.midList := rfl
@[simp] theorem State.withNext_matched (s : State) (n : Nat) : (s.withNext n).matched = s.matched := rfl
@[simp] theorem State.withNext_rao (s : State) (n : Nat) : (s.withNext n).rao = s.rao := rfl
@[simp] theorem State.withNext_vmcs (s : State) (n : Nat) : (s.withNext n).vmcs = s.vmcs := rfl
@[simp] theorem State.withNext_mem (s : State) (n : Nat) : (s.withNext n).mem = s.mem := rfl
@[simp] theorem State.withNext_platform (s : State) (n : Nat) : (s.withNext n).platform = s.platform := rfl
@[simp] theorem State.withNext_env (s : State) (n : Nat) : (s.withNext n).env = s.env := rfl
@[simp] theorem State.withNext_pebs (s : State) (n : Nat) : (s.withNext n).pebs = s.pebs := rfl
@[simp] theorem State.withNext_draws (s : State) (n : Nat) : (s.withNext n).draws = s.draws := rfl

/-! ## storeBytes -/

@[simp] theorem State.storeBytes_gpr (s : State) (pas : List Nat) (bs : List Byte) : (s.storeBytes pas bs).gpr = s.gpr := rfl
@[simp] theorem State.storeBytes_rip (s : State) (pas : List Nat) (bs : List Byte) : (s.storeBytes pas bs).rip = s.rip := rfl
@[simp] theorem State.storeBytes_ripWrapped (s : State) (pas : List Nat) (bs : List Byte) : (s.storeBytes pas bs).ripWrapped = s.ripWrapped := rfl
@[simp] theorem State.storeBytes_nextRip (s : State) (pas : List Nat) (bs : List Byte) : (s.storeBytes pas bs).nextRip = s.nextRip := rfl
@[simp] theorem State.storeBytes_rflags (s : State) (pas : List Nat) (bs : List Byte) : (s.storeBytes pas bs).rflags = s.rflags := rfl
@[simp] theorem State.storeBytes_mode (s : State) (pas : List Nat) (bs : List Byte) : (s.storeBytes pas bs).mode = s.mode := rfl
@[simp] theorem State.storeBytes_cpl (s : State) (pas : List Nat) (bs : List Byte) : (s.storeBytes pas bs).cpl = s.cpl := rfl
@[simp] theorem State.storeBytes_vmx (s : State) (pas : List Nat) (bs : List Byte) : (s.storeBytes pas bs).vmx = s.vmx := rfl
@[simp] theorem State.storeBytes_smm (s : State) (pas : List Nat) (bs : List Byte) : (s.storeBytes pas bs).smm = s.smm := rfl
@[simp] theorem State.storeBytes_enclave (s : State) (pas : List Nat) (bs : List Byte) : (s.storeBytes pas bs).enclave = s.enclave := rfl
@[simp] theorem State.storeBytes_secsLamU48 (s : State) (pas : List Nat) (bs : List Byte) : (s.storeBytes pas bs).secsLamU48 = s.secsLamU48 := rfl
@[simp] theorem State.storeBytes_secsLamU57 (s : State) (pas : List Nat) (bs : List Byte) : (s.storeBytes pas bs).secsLamU57 = s.secsLamU57 := rfl
@[simp] theorem State.storeBytes_segs (s : State) (pas : List Nat) (bs : List Byte) : (s.storeBytes pas bs).segs = s.segs := rfl
@[simp] theorem State.storeBytes_cr0 (s : State) (pas : List Nat) (bs : List Byte) : (s.storeBytes pas bs).cr0 = s.cr0 := rfl
@[simp] theorem State.storeBytes_cr2 (s : State) (pas : List Nat) (bs : List Byte) : (s.storeBytes pas bs).cr2 = s.cr2 := rfl
@[simp] theorem State.storeBytes_cr3 (s : State) (pas : List Nat) (bs : List Byte) : (s.storeBytes pas bs).cr3 = s.cr3 := rfl
@[simp] theorem State.storeBytes_cr4 (s : State) (pas : List Nat) (bs : List Byte) : (s.storeBytes pas bs).cr4 = s.cr4 := rfl
@[simp] theorem State.storeBytes_xcr0 (s : State) (pas : List Nat) (bs : List Byte) : (s.storeBytes pas bs).xcr0 = s.xcr0 := rfl
@[simp] theorem State.storeBytes_dr0 (s : State) (pas : List Nat) (bs : List Byte) : (s.storeBytes pas bs).dr0 = s.dr0 := rfl
@[simp] theorem State.storeBytes_dr1 (s : State) (pas : List Nat) (bs : List Byte) : (s.storeBytes pas bs).dr1 = s.dr1 := rfl
@[simp] theorem State.storeBytes_dr2 (s : State) (pas : List Nat) (bs : List Byte) : (s.storeBytes pas bs).dr2 = s.dr2 := rfl
@[simp] theorem State.storeBytes_dr3 (s : State) (pas : List Nat) (bs : List Byte) : (s.storeBytes pas bs).dr3 = s.dr3 := rfl
@[simp] theorem State.storeBytes_dr7 (s : State) (pas : List Nat) (bs : List Byte) : (s.storeBytes pas bs).dr7 = s.dr7 := rfl
@[simp] theorem State.storeBytes_uif (s : State) (pas : List Nat) (bs : List Byte) : (s.storeBytes pas bs).uif = s.uif := rfl
@[simp] theorem State.storeBytes_mxcsr (s : State) (pas : List Nat) (bs : List Byte) : (s.storeBytes pas bs).mxcsr = s.mxcsr := rfl
@[simp] theorem State.storeBytes_vregs (s : State) (pas : List Nat) (bs : List Byte) : (s.storeBytes pas bs).vregs = s.vregs := rfl
@[simp] theorem State.storeBytes_tilecfg (s : State) (pas : List Nat) (bs : List Byte) : (s.storeBytes pas bs).tilecfg = s.tilecfg := rfl
@[simp] theorem State.storeBytes_tiles (s : State) (pas : List Nat) (bs : List Byte) : (s.storeBytes pas bs).tiles = s.tiles := rfl
@[simp] theorem State.storeBytes_msrs (s : State) (pas : List Nat) (bs : List Byte) : (s.storeBytes pas bs).msrs = s.msrs := rfl
@[simp] theorem State.storeBytes_tsc (s : State) (pas : List Nat) (bs : List Byte) : (s.storeBytes pas bs).tsc = s.tsc := rfl
@[simp] theorem State.storeBytes_userTimer (s : State) (pas : List Nat) (bs : List Byte) : (s.storeBytes pas bs).userTimer = s.userTimer := rfl
@[simp] theorem State.storeBytes_uirr (s : State) (pas : List Nat) (bs : List Byte) : (s.storeBytes pas bs).uirr = s.uirr := rfl
@[simp] theorem State.storeBytes_guestTimer (s : State) (pas : List Nat) (bs : List Byte) : (s.storeBytes pas bs).guestTimer = s.guestTimer := rfl
@[simp] theorem State.storeBytes_fixedCtr0 (s : State) (pas : List Nat) (bs : List Byte) : (s.storeBytes pas bs).fixedCtr0 = s.fixedCtr0 := rfl
@[simp] theorem State.storeBytes_pmuRunning (s : State) (pas : List Nat) (bs : List Byte) : (s.storeBytes pas bs).pmuRunning = s.pmuRunning := rfl
@[simp] theorem State.storeBytes_tmeKeys (s : State) (pas : List Nat) (bs : List Byte) : (s.storeBytes pas bs).tmeKeys = s.tmeKeys := rfl
@[simp] theorem State.storeBytes_tseKeys (s : State) (pas : List Nat) (bs : List Byte) : (s.storeBytes pas bs).tseKeys = s.tseKeys := rfl
@[simp] theorem State.storeBytes_monitor (s : State) (pas : List Nat) (bs : List Byte) : (s.storeBytes pas bs).monitor = s.monitor.snoop pas := rfl
@[simp] theorem State.storeBytes_activity (s : State) (pas : List Nat) (bs : List Byte) : (s.storeBytes pas bs).activity = s.activity := rfl
@[simp] theorem State.storeBytes_midList (s : State) (pas : List Nat) (bs : List Byte) : (s.storeBytes pas bs).midList = s.midList := rfl
@[simp] theorem State.storeBytes_matched (s : State) (pas : List Nat) (bs : List Byte) : (s.storeBytes pas bs).matched = s.matched := rfl
@[simp] theorem State.storeBytes_rao (s : State) (pas : List Nat) (bs : List Byte) : (s.storeBytes pas bs).rao = s.rao := rfl
@[simp] theorem State.storeBytes_vmcs (s : State) (pas : List Nat) (bs : List Byte) : (s.storeBytes pas bs).vmcs = s.vmcs := rfl
@[simp] theorem State.storeBytes_mem (s : State) (pas : List Nat) (bs : List Byte) : (s.storeBytes pas bs).mem = s.mem.writeAll pas bs := rfl
@[simp] theorem State.storeBytes_platform (s : State) (pas : List Nat) (bs : List Byte) : (s.storeBytes pas bs).platform = s.platform := rfl
@[simp] theorem State.storeBytes_env (s : State) (pas : List Nat) (bs : List Byte) : (s.storeBytes pas bs).env = s.env := rfl
@[simp] theorem State.storeBytes_pebs (s : State) (pas : List Nat) (bs : List Byte) : (s.storeBytes pas bs).pebs = s.pebs := rfl
@[simp] theorem State.storeBytes_draws (s : State) (pas : List Nat) (bs : List Byte) : (s.storeBytes pas bs).draws = s.draws := rfl

/-! ## drew -/

@[simp] theorem State.drew_gpr (s : State) : (s.drew).gpr = s.gpr := rfl
@[simp] theorem State.drew_rip (s : State) : (s.drew).rip = s.rip := rfl
@[simp] theorem State.drew_ripWrapped (s : State) : (s.drew).ripWrapped = s.ripWrapped := rfl
@[simp] theorem State.drew_nextRip (s : State) : (s.drew).nextRip = s.nextRip := rfl
@[simp] theorem State.drew_rflags (s : State) : (s.drew).rflags = s.rflags := rfl
@[simp] theorem State.drew_mode (s : State) : (s.drew).mode = s.mode := rfl
@[simp] theorem State.drew_cpl (s : State) : (s.drew).cpl = s.cpl := rfl
@[simp] theorem State.drew_vmx (s : State) : (s.drew).vmx = s.vmx := rfl
@[simp] theorem State.drew_smm (s : State) : (s.drew).smm = s.smm := rfl
@[simp] theorem State.drew_enclave (s : State) : (s.drew).enclave = s.enclave := rfl
@[simp] theorem State.drew_secsLamU48 (s : State) : (s.drew).secsLamU48 = s.secsLamU48 := rfl
@[simp] theorem State.drew_secsLamU57 (s : State) : (s.drew).secsLamU57 = s.secsLamU57 := rfl
@[simp] theorem State.drew_segs (s : State) : (s.drew).segs = s.segs := rfl
@[simp] theorem State.drew_cr0 (s : State) : (s.drew).cr0 = s.cr0 := rfl
@[simp] theorem State.drew_cr2 (s : State) : (s.drew).cr2 = s.cr2 := rfl
@[simp] theorem State.drew_cr3 (s : State) : (s.drew).cr3 = s.cr3 := rfl
@[simp] theorem State.drew_cr4 (s : State) : (s.drew).cr4 = s.cr4 := rfl
@[simp] theorem State.drew_xcr0 (s : State) : (s.drew).xcr0 = s.xcr0 := rfl
@[simp] theorem State.drew_dr0 (s : State) : (s.drew).dr0 = s.dr0 := rfl
@[simp] theorem State.drew_dr1 (s : State) : (s.drew).dr1 = s.dr1 := rfl
@[simp] theorem State.drew_dr2 (s : State) : (s.drew).dr2 = s.dr2 := rfl
@[simp] theorem State.drew_dr3 (s : State) : (s.drew).dr3 = s.dr3 := rfl
@[simp] theorem State.drew_dr7 (s : State) : (s.drew).dr7 = s.dr7 := rfl
@[simp] theorem State.drew_uif (s : State) : (s.drew).uif = s.uif := rfl
@[simp] theorem State.drew_mxcsr (s : State) : (s.drew).mxcsr = s.mxcsr := rfl
@[simp] theorem State.drew_vregs (s : State) : (s.drew).vregs = s.vregs := rfl
@[simp] theorem State.drew_tilecfg (s : State) : (s.drew).tilecfg = s.tilecfg := rfl
@[simp] theorem State.drew_tiles (s : State) : (s.drew).tiles = s.tiles := rfl
@[simp] theorem State.drew_msrs (s : State) : (s.drew).msrs = s.msrs := rfl
@[simp] theorem State.drew_tsc (s : State) : (s.drew).tsc = s.tsc := rfl
@[simp] theorem State.drew_userTimer (s : State) : (s.drew).userTimer = s.userTimer := rfl
@[simp] theorem State.drew_uirr (s : State) : (s.drew).uirr = s.uirr := rfl
@[simp] theorem State.drew_guestTimer (s : State) : (s.drew).guestTimer = s.guestTimer := rfl
@[simp] theorem State.drew_fixedCtr0 (s : State) : (s.drew).fixedCtr0 = s.fixedCtr0 := rfl
@[simp] theorem State.drew_pmuRunning (s : State) : (s.drew).pmuRunning = s.pmuRunning := rfl
@[simp] theorem State.drew_tmeKeys (s : State) : (s.drew).tmeKeys = s.tmeKeys := rfl
@[simp] theorem State.drew_tseKeys (s : State) : (s.drew).tseKeys = s.tseKeys := rfl
@[simp] theorem State.drew_monitor (s : State) : (s.drew).monitor = s.monitor := rfl
@[simp] theorem State.drew_activity (s : State) : (s.drew).activity = s.activity := rfl
@[simp] theorem State.drew_midList (s : State) : (s.drew).midList = s.midList := rfl
@[simp] theorem State.drew_matched (s : State) : (s.drew).matched = s.matched := rfl
@[simp] theorem State.drew_rao (s : State) : (s.drew).rao = s.rao := rfl
@[simp] theorem State.drew_vmcs (s : State) : (s.drew).vmcs = s.vmcs := rfl
@[simp] theorem State.drew_mem (s : State) : (s.drew).mem = s.mem := rfl
@[simp] theorem State.drew_platform (s : State) : (s.drew).platform = s.platform := rfl
@[simp] theorem State.drew_env (s : State) : (s.drew).env = s.env := rfl
@[simp] theorem State.drew_pebs (s : State) : (s.drew).pebs = s.pebs := rfl
@[simp] theorem State.drew_draws (s : State) : (s.drew).draws = s.draws + 1 := rfl

/-! ## setTile -/

@[simp] theorem State.setTile_gpr (s : State) (d : RegNum) (v : Vector Vec 16) : (s.setTile d v).gpr = s.gpr := rfl
@[simp] theorem State.setTile_rip (s : State) (d : RegNum) (v : Vector Vec 16) : (s.setTile d v).rip = s.rip := rfl
@[simp] theorem State.setTile_ripWrapped (s : State) (d : RegNum) (v : Vector Vec 16) : (s.setTile d v).ripWrapped = s.ripWrapped := rfl
@[simp] theorem State.setTile_nextRip (s : State) (d : RegNum) (v : Vector Vec 16) : (s.setTile d v).nextRip = s.nextRip := rfl
@[simp] theorem State.setTile_rflags (s : State) (d : RegNum) (v : Vector Vec 16) : (s.setTile d v).rflags = s.rflags := rfl
@[simp] theorem State.setTile_mode (s : State) (d : RegNum) (v : Vector Vec 16) : (s.setTile d v).mode = s.mode := rfl
@[simp] theorem State.setTile_cpl (s : State) (d : RegNum) (v : Vector Vec 16) : (s.setTile d v).cpl = s.cpl := rfl
@[simp] theorem State.setTile_vmx (s : State) (d : RegNum) (v : Vector Vec 16) : (s.setTile d v).vmx = s.vmx := rfl
@[simp] theorem State.setTile_smm (s : State) (d : RegNum) (v : Vector Vec 16) : (s.setTile d v).smm = s.smm := rfl
@[simp] theorem State.setTile_enclave (s : State) (d : RegNum) (v : Vector Vec 16) : (s.setTile d v).enclave = s.enclave := rfl
@[simp] theorem State.setTile_secsLamU48 (s : State) (d : RegNum) (v : Vector Vec 16) : (s.setTile d v).secsLamU48 = s.secsLamU48 := rfl
@[simp] theorem State.setTile_secsLamU57 (s : State) (d : RegNum) (v : Vector Vec 16) : (s.setTile d v).secsLamU57 = s.secsLamU57 := rfl
@[simp] theorem State.setTile_segs (s : State) (d : RegNum) (v : Vector Vec 16) : (s.setTile d v).segs = s.segs := rfl
@[simp] theorem State.setTile_cr0 (s : State) (d : RegNum) (v : Vector Vec 16) : (s.setTile d v).cr0 = s.cr0 := rfl
@[simp] theorem State.setTile_cr2 (s : State) (d : RegNum) (v : Vector Vec 16) : (s.setTile d v).cr2 = s.cr2 := rfl
@[simp] theorem State.setTile_cr3 (s : State) (d : RegNum) (v : Vector Vec 16) : (s.setTile d v).cr3 = s.cr3 := rfl
@[simp] theorem State.setTile_cr4 (s : State) (d : RegNum) (v : Vector Vec 16) : (s.setTile d v).cr4 = s.cr4 := rfl
@[simp] theorem State.setTile_xcr0 (s : State) (d : RegNum) (v : Vector Vec 16) : (s.setTile d v).xcr0 = s.xcr0 := rfl
@[simp] theorem State.setTile_dr0 (s : State) (d : RegNum) (v : Vector Vec 16) : (s.setTile d v).dr0 = s.dr0 := rfl
@[simp] theorem State.setTile_dr1 (s : State) (d : RegNum) (v : Vector Vec 16) : (s.setTile d v).dr1 = s.dr1 := rfl
@[simp] theorem State.setTile_dr2 (s : State) (d : RegNum) (v : Vector Vec 16) : (s.setTile d v).dr2 = s.dr2 := rfl
@[simp] theorem State.setTile_dr3 (s : State) (d : RegNum) (v : Vector Vec 16) : (s.setTile d v).dr3 = s.dr3 := rfl
@[simp] theorem State.setTile_dr7 (s : State) (d : RegNum) (v : Vector Vec 16) : (s.setTile d v).dr7 = s.dr7 := rfl
@[simp] theorem State.setTile_uif (s : State) (d : RegNum) (v : Vector Vec 16) : (s.setTile d v).uif = s.uif := rfl
@[simp] theorem State.setTile_mxcsr (s : State) (d : RegNum) (v : Vector Vec 16) : (s.setTile d v).mxcsr = s.mxcsr := rfl
@[simp] theorem State.setTile_vregs (s : State) (d : RegNum) (v : Vector Vec 16) : (s.setTile d v).vregs = s.vregs := rfl
@[simp] theorem State.setTile_tilecfg (s : State) (d : RegNum) (v : Vector Vec 16) : (s.setTile d v).tilecfg = s.tilecfg := rfl
@[simp] theorem State.setTile_msrs (s : State) (d : RegNum) (v : Vector Vec 16) : (s.setTile d v).msrs = s.msrs := rfl
@[simp] theorem State.setTile_tsc (s : State) (d : RegNum) (v : Vector Vec 16) : (s.setTile d v).tsc = s.tsc := rfl
@[simp] theorem State.setTile_userTimer (s : State) (d : RegNum) (v : Vector Vec 16) : (s.setTile d v).userTimer = s.userTimer := rfl
@[simp] theorem State.setTile_uirr (s : State) (d : RegNum) (v : Vector Vec 16) : (s.setTile d v).uirr = s.uirr := rfl
@[simp] theorem State.setTile_guestTimer (s : State) (d : RegNum) (v : Vector Vec 16) : (s.setTile d v).guestTimer = s.guestTimer := rfl
@[simp] theorem State.setTile_fixedCtr0 (s : State) (d : RegNum) (v : Vector Vec 16) : (s.setTile d v).fixedCtr0 = s.fixedCtr0 := rfl
@[simp] theorem State.setTile_pmuRunning (s : State) (d : RegNum) (v : Vector Vec 16) : (s.setTile d v).pmuRunning = s.pmuRunning := rfl
@[simp] theorem State.setTile_tmeKeys (s : State) (d : RegNum) (v : Vector Vec 16) : (s.setTile d v).tmeKeys = s.tmeKeys := rfl
@[simp] theorem State.setTile_tseKeys (s : State) (d : RegNum) (v : Vector Vec 16) : (s.setTile d v).tseKeys = s.tseKeys := rfl
@[simp] theorem State.setTile_monitor (s : State) (d : RegNum) (v : Vector Vec 16) : (s.setTile d v).monitor = s.monitor := rfl
@[simp] theorem State.setTile_activity (s : State) (d : RegNum) (v : Vector Vec 16) : (s.setTile d v).activity = s.activity := rfl
@[simp] theorem State.setTile_midList (s : State) (d : RegNum) (v : Vector Vec 16) : (s.setTile d v).midList = s.midList := rfl
@[simp] theorem State.setTile_matched (s : State) (d : RegNum) (v : Vector Vec 16) : (s.setTile d v).matched = s.matched := rfl
@[simp] theorem State.setTile_rao (s : State) (d : RegNum) (v : Vector Vec 16) : (s.setTile d v).rao = s.rao := rfl
@[simp] theorem State.setTile_vmcs (s : State) (d : RegNum) (v : Vector Vec 16) : (s.setTile d v).vmcs = s.vmcs := rfl
@[simp] theorem State.setTile_mem (s : State) (d : RegNum) (v : Vector Vec 16) : (s.setTile d v).mem = s.mem := rfl
@[simp] theorem State.setTile_platform (s : State) (d : RegNum) (v : Vector Vec 16) : (s.setTile d v).platform = s.platform := rfl
@[simp] theorem State.setTile_env (s : State) (d : RegNum) (v : Vector Vec 16) : (s.setTile d v).env = s.env := rfl
@[simp] theorem State.setTile_pebs (s : State) (d : RegNum) (v : Vector Vec 16) : (s.setTile d v).pebs = s.pebs := rfl
@[simp] theorem State.setTile_draws (s : State) (d : RegNum) (v : Vector Vec 16) : (s.setTile d v).draws = s.draws := rfl

/-! ## zeroStartRow -/

@[simp] theorem State.zeroStartRow_gpr (s : State) : (s.zeroStartRow).gpr = s.gpr := rfl
@[simp] theorem State.zeroStartRow_rip (s : State) : (s.zeroStartRow).rip = s.rip := rfl
@[simp] theorem State.zeroStartRow_ripWrapped (s : State) : (s.zeroStartRow).ripWrapped = s.ripWrapped := rfl
@[simp] theorem State.zeroStartRow_nextRip (s : State) : (s.zeroStartRow).nextRip = s.nextRip := rfl
@[simp] theorem State.zeroStartRow_rflags (s : State) : (s.zeroStartRow).rflags = s.rflags := rfl
@[simp] theorem State.zeroStartRow_mode (s : State) : (s.zeroStartRow).mode = s.mode := rfl
@[simp] theorem State.zeroStartRow_cpl (s : State) : (s.zeroStartRow).cpl = s.cpl := rfl
@[simp] theorem State.zeroStartRow_vmx (s : State) : (s.zeroStartRow).vmx = s.vmx := rfl
@[simp] theorem State.zeroStartRow_smm (s : State) : (s.zeroStartRow).smm = s.smm := rfl
@[simp] theorem State.zeroStartRow_enclave (s : State) : (s.zeroStartRow).enclave = s.enclave := rfl
@[simp] theorem State.zeroStartRow_secsLamU48 (s : State) : (s.zeroStartRow).secsLamU48 = s.secsLamU48 := rfl
@[simp] theorem State.zeroStartRow_secsLamU57 (s : State) : (s.zeroStartRow).secsLamU57 = s.secsLamU57 := rfl
@[simp] theorem State.zeroStartRow_segs (s : State) : (s.zeroStartRow).segs = s.segs := rfl
@[simp] theorem State.zeroStartRow_cr0 (s : State) : (s.zeroStartRow).cr0 = s.cr0 := rfl
@[simp] theorem State.zeroStartRow_cr2 (s : State) : (s.zeroStartRow).cr2 = s.cr2 := rfl
@[simp] theorem State.zeroStartRow_cr3 (s : State) : (s.zeroStartRow).cr3 = s.cr3 := rfl
@[simp] theorem State.zeroStartRow_cr4 (s : State) : (s.zeroStartRow).cr4 = s.cr4 := rfl
@[simp] theorem State.zeroStartRow_xcr0 (s : State) : (s.zeroStartRow).xcr0 = s.xcr0 := rfl
@[simp] theorem State.zeroStartRow_dr0 (s : State) : (s.zeroStartRow).dr0 = s.dr0 := rfl
@[simp] theorem State.zeroStartRow_dr1 (s : State) : (s.zeroStartRow).dr1 = s.dr1 := rfl
@[simp] theorem State.zeroStartRow_dr2 (s : State) : (s.zeroStartRow).dr2 = s.dr2 := rfl
@[simp] theorem State.zeroStartRow_dr3 (s : State) : (s.zeroStartRow).dr3 = s.dr3 := rfl
@[simp] theorem State.zeroStartRow_dr7 (s : State) : (s.zeroStartRow).dr7 = s.dr7 := rfl
@[simp] theorem State.zeroStartRow_uif (s : State) : (s.zeroStartRow).uif = s.uif := rfl
@[simp] theorem State.zeroStartRow_mxcsr (s : State) : (s.zeroStartRow).mxcsr = s.mxcsr := rfl
@[simp] theorem State.zeroStartRow_vregs (s : State) : (s.zeroStartRow).vregs = s.vregs := rfl
@[simp] theorem State.zeroStartRow_tilecfg (s : State) : (s.zeroStartRow).tilecfg = { s.tilecfg with startRow := 0 } := rfl
@[simp] theorem State.zeroStartRow_tiles (s : State) : (s.zeroStartRow).tiles = s.tiles := rfl
@[simp] theorem State.zeroStartRow_msrs (s : State) : (s.zeroStartRow).msrs = s.msrs := rfl
@[simp] theorem State.zeroStartRow_tsc (s : State) : (s.zeroStartRow).tsc = s.tsc := rfl
@[simp] theorem State.zeroStartRow_userTimer (s : State) : (s.zeroStartRow).userTimer = s.userTimer := rfl
@[simp] theorem State.zeroStartRow_uirr (s : State) : (s.zeroStartRow).uirr = s.uirr := rfl
@[simp] theorem State.zeroStartRow_guestTimer (s : State) : (s.zeroStartRow).guestTimer = s.guestTimer := rfl
@[simp] theorem State.zeroStartRow_fixedCtr0 (s : State) : (s.zeroStartRow).fixedCtr0 = s.fixedCtr0 := rfl
@[simp] theorem State.zeroStartRow_pmuRunning (s : State) : (s.zeroStartRow).pmuRunning = s.pmuRunning := rfl
@[simp] theorem State.zeroStartRow_tmeKeys (s : State) : (s.zeroStartRow).tmeKeys = s.tmeKeys := rfl
@[simp] theorem State.zeroStartRow_tseKeys (s : State) : (s.zeroStartRow).tseKeys = s.tseKeys := rfl
@[simp] theorem State.zeroStartRow_monitor (s : State) : (s.zeroStartRow).monitor = s.monitor := rfl
@[simp] theorem State.zeroStartRow_activity (s : State) : (s.zeroStartRow).activity = s.activity := rfl
@[simp] theorem State.zeroStartRow_midList (s : State) : (s.zeroStartRow).midList = s.midList := rfl
@[simp] theorem State.zeroStartRow_matched (s : State) : (s.zeroStartRow).matched = s.matched := rfl
@[simp] theorem State.zeroStartRow_rao (s : State) : (s.zeroStartRow).rao = s.rao := rfl
@[simp] theorem State.zeroStartRow_vmcs (s : State) : (s.zeroStartRow).vmcs = s.vmcs := rfl
@[simp] theorem State.zeroStartRow_mem (s : State) : (s.zeroStartRow).mem = s.mem := rfl
@[simp] theorem State.zeroStartRow_platform (s : State) : (s.zeroStartRow).platform = s.platform := rfl
@[simp] theorem State.zeroStartRow_env (s : State) : (s.zeroStartRow).env = s.env := rfl
@[simp] theorem State.zeroStartRow_pebs (s : State) : (s.zeroStartRow).pebs = s.pebs := rfl
@[simp] theorem State.zeroStartRow_draws (s : State) : (s.zeroStartRow).draws = s.draws := rfl

/-! ## setTmeKey -/

@[simp] theorem State.setTmeKey_gpr (s : State) (k : Nat) (e : KeyEntry 512) : (s.setTmeKey k e).gpr = s.gpr := rfl
@[simp] theorem State.setTmeKey_rip (s : State) (k : Nat) (e : KeyEntry 512) : (s.setTmeKey k e).rip = s.rip := rfl
@[simp] theorem State.setTmeKey_ripWrapped (s : State) (k : Nat) (e : KeyEntry 512) : (s.setTmeKey k e).ripWrapped = s.ripWrapped := rfl
@[simp] theorem State.setTmeKey_nextRip (s : State) (k : Nat) (e : KeyEntry 512) : (s.setTmeKey k e).nextRip = s.nextRip := rfl
@[simp] theorem State.setTmeKey_rflags (s : State) (k : Nat) (e : KeyEntry 512) : (s.setTmeKey k e).rflags = s.rflags := rfl
@[simp] theorem State.setTmeKey_mode (s : State) (k : Nat) (e : KeyEntry 512) : (s.setTmeKey k e).mode = s.mode := rfl
@[simp] theorem State.setTmeKey_cpl (s : State) (k : Nat) (e : KeyEntry 512) : (s.setTmeKey k e).cpl = s.cpl := rfl
@[simp] theorem State.setTmeKey_vmx (s : State) (k : Nat) (e : KeyEntry 512) : (s.setTmeKey k e).vmx = s.vmx := rfl
@[simp] theorem State.setTmeKey_smm (s : State) (k : Nat) (e : KeyEntry 512) : (s.setTmeKey k e).smm = s.smm := rfl
@[simp] theorem State.setTmeKey_enclave (s : State) (k : Nat) (e : KeyEntry 512) : (s.setTmeKey k e).enclave = s.enclave := rfl
@[simp] theorem State.setTmeKey_secsLamU48 (s : State) (k : Nat) (e : KeyEntry 512) : (s.setTmeKey k e).secsLamU48 = s.secsLamU48 := rfl
@[simp] theorem State.setTmeKey_secsLamU57 (s : State) (k : Nat) (e : KeyEntry 512) : (s.setTmeKey k e).secsLamU57 = s.secsLamU57 := rfl
@[simp] theorem State.setTmeKey_segs (s : State) (k : Nat) (e : KeyEntry 512) : (s.setTmeKey k e).segs = s.segs := rfl
@[simp] theorem State.setTmeKey_cr0 (s : State) (k : Nat) (e : KeyEntry 512) : (s.setTmeKey k e).cr0 = s.cr0 := rfl
@[simp] theorem State.setTmeKey_cr2 (s : State) (k : Nat) (e : KeyEntry 512) : (s.setTmeKey k e).cr2 = s.cr2 := rfl
@[simp] theorem State.setTmeKey_cr3 (s : State) (k : Nat) (e : KeyEntry 512) : (s.setTmeKey k e).cr3 = s.cr3 := rfl
@[simp] theorem State.setTmeKey_cr4 (s : State) (k : Nat) (e : KeyEntry 512) : (s.setTmeKey k e).cr4 = s.cr4 := rfl
@[simp] theorem State.setTmeKey_xcr0 (s : State) (k : Nat) (e : KeyEntry 512) : (s.setTmeKey k e).xcr0 = s.xcr0 := rfl
@[simp] theorem State.setTmeKey_dr0 (s : State) (k : Nat) (e : KeyEntry 512) : (s.setTmeKey k e).dr0 = s.dr0 := rfl
@[simp] theorem State.setTmeKey_dr1 (s : State) (k : Nat) (e : KeyEntry 512) : (s.setTmeKey k e).dr1 = s.dr1 := rfl
@[simp] theorem State.setTmeKey_dr2 (s : State) (k : Nat) (e : KeyEntry 512) : (s.setTmeKey k e).dr2 = s.dr2 := rfl
@[simp] theorem State.setTmeKey_dr3 (s : State) (k : Nat) (e : KeyEntry 512) : (s.setTmeKey k e).dr3 = s.dr3 := rfl
@[simp] theorem State.setTmeKey_dr7 (s : State) (k : Nat) (e : KeyEntry 512) : (s.setTmeKey k e).dr7 = s.dr7 := rfl
@[simp] theorem State.setTmeKey_uif (s : State) (k : Nat) (e : KeyEntry 512) : (s.setTmeKey k e).uif = s.uif := rfl
@[simp] theorem State.setTmeKey_mxcsr (s : State) (k : Nat) (e : KeyEntry 512) : (s.setTmeKey k e).mxcsr = s.mxcsr := rfl
@[simp] theorem State.setTmeKey_vregs (s : State) (k : Nat) (e : KeyEntry 512) : (s.setTmeKey k e).vregs = s.vregs := rfl
@[simp] theorem State.setTmeKey_tilecfg (s : State) (k : Nat) (e : KeyEntry 512) : (s.setTmeKey k e).tilecfg = s.tilecfg := rfl
@[simp] theorem State.setTmeKey_tiles (s : State) (k : Nat) (e : KeyEntry 512) : (s.setTmeKey k e).tiles = s.tiles := rfl
@[simp] theorem State.setTmeKey_msrs (s : State) (k : Nat) (e : KeyEntry 512) : (s.setTmeKey k e).msrs = s.msrs := rfl
@[simp] theorem State.setTmeKey_tsc (s : State) (k : Nat) (e : KeyEntry 512) : (s.setTmeKey k e).tsc = s.tsc := rfl
@[simp] theorem State.setTmeKey_userTimer (s : State) (k : Nat) (e : KeyEntry 512) : (s.setTmeKey k e).userTimer = s.userTimer := rfl
@[simp] theorem State.setTmeKey_uirr (s : State) (k : Nat) (e : KeyEntry 512) : (s.setTmeKey k e).uirr = s.uirr := rfl
@[simp] theorem State.setTmeKey_guestTimer (s : State) (k : Nat) (e : KeyEntry 512) : (s.setTmeKey k e).guestTimer = s.guestTimer := rfl
@[simp] theorem State.setTmeKey_fixedCtr0 (s : State) (k : Nat) (e : KeyEntry 512) : (s.setTmeKey k e).fixedCtr0 = s.fixedCtr0 := rfl
@[simp] theorem State.setTmeKey_pmuRunning (s : State) (k : Nat) (e : KeyEntry 512) : (s.setTmeKey k e).pmuRunning = s.pmuRunning := rfl
@[simp] theorem State.setTmeKey_tmeKeys (s : State) (k : Nat) (e : KeyEntry 512) : (s.setTmeKey k e).tmeKeys = Store.set KeyEntry.unset k e s.tmeKeys := rfl
@[simp] theorem State.setTmeKey_tseKeys (s : State) (k : Nat) (e : KeyEntry 512) : (s.setTmeKey k e).tseKeys = s.tseKeys := rfl
@[simp] theorem State.setTmeKey_monitor (s : State) (k : Nat) (e : KeyEntry 512) : (s.setTmeKey k e).monitor = s.monitor := rfl
@[simp] theorem State.setTmeKey_activity (s : State) (k : Nat) (e : KeyEntry 512) : (s.setTmeKey k e).activity = s.activity := rfl
@[simp] theorem State.setTmeKey_midList (s : State) (k : Nat) (e : KeyEntry 512) : (s.setTmeKey k e).midList = s.midList := rfl
@[simp] theorem State.setTmeKey_matched (s : State) (k : Nat) (e : KeyEntry 512) : (s.setTmeKey k e).matched = s.matched := rfl
@[simp] theorem State.setTmeKey_rao (s : State) (k : Nat) (e : KeyEntry 512) : (s.setTmeKey k e).rao = s.rao := rfl
@[simp] theorem State.setTmeKey_vmcs (s : State) (k : Nat) (e : KeyEntry 512) : (s.setTmeKey k e).vmcs = s.vmcs := rfl
@[simp] theorem State.setTmeKey_mem (s : State) (k : Nat) (e : KeyEntry 512) : (s.setTmeKey k e).mem = s.mem := rfl
@[simp] theorem State.setTmeKey_platform (s : State) (k : Nat) (e : KeyEntry 512) : (s.setTmeKey k e).platform = s.platform := rfl
@[simp] theorem State.setTmeKey_env (s : State) (k : Nat) (e : KeyEntry 512) : (s.setTmeKey k e).env = s.env := rfl
@[simp] theorem State.setTmeKey_pebs (s : State) (k : Nat) (e : KeyEntry 512) : (s.setTmeKey k e).pebs = s.pebs := rfl
@[simp] theorem State.setTmeKey_draws (s : State) (k : Nat) (e : KeyEntry 512) : (s.setTmeKey k e).draws = s.draws := rfl

/-! ## setTseKey -/

@[simp] theorem State.setTseKey_gpr (s : State) (k : Nat) (e : KeyEntry 256) : (s.setTseKey k e).gpr = s.gpr := rfl
@[simp] theorem State.setTseKey_rip (s : State) (k : Nat) (e : KeyEntry 256) : (s.setTseKey k e).rip = s.rip := rfl
@[simp] theorem State.setTseKey_ripWrapped (s : State) (k : Nat) (e : KeyEntry 256) : (s.setTseKey k e).ripWrapped = s.ripWrapped := rfl
@[simp] theorem State.setTseKey_nextRip (s : State) (k : Nat) (e : KeyEntry 256) : (s.setTseKey k e).nextRip = s.nextRip := rfl
@[simp] theorem State.setTseKey_rflags (s : State) (k : Nat) (e : KeyEntry 256) : (s.setTseKey k e).rflags = s.rflags := rfl
@[simp] theorem State.setTseKey_mode (s : State) (k : Nat) (e : KeyEntry 256) : (s.setTseKey k e).mode = s.mode := rfl
@[simp] theorem State.setTseKey_cpl (s : State) (k : Nat) (e : KeyEntry 256) : (s.setTseKey k e).cpl = s.cpl := rfl
@[simp] theorem State.setTseKey_vmx (s : State) (k : Nat) (e : KeyEntry 256) : (s.setTseKey k e).vmx = s.vmx := rfl
@[simp] theorem State.setTseKey_smm (s : State) (k : Nat) (e : KeyEntry 256) : (s.setTseKey k e).smm = s.smm := rfl
@[simp] theorem State.setTseKey_enclave (s : State) (k : Nat) (e : KeyEntry 256) : (s.setTseKey k e).enclave = s.enclave := rfl
@[simp] theorem State.setTseKey_secsLamU48 (s : State) (k : Nat) (e : KeyEntry 256) : (s.setTseKey k e).secsLamU48 = s.secsLamU48 := rfl
@[simp] theorem State.setTseKey_secsLamU57 (s : State) (k : Nat) (e : KeyEntry 256) : (s.setTseKey k e).secsLamU57 = s.secsLamU57 := rfl
@[simp] theorem State.setTseKey_segs (s : State) (k : Nat) (e : KeyEntry 256) : (s.setTseKey k e).segs = s.segs := rfl
@[simp] theorem State.setTseKey_cr0 (s : State) (k : Nat) (e : KeyEntry 256) : (s.setTseKey k e).cr0 = s.cr0 := rfl
@[simp] theorem State.setTseKey_cr2 (s : State) (k : Nat) (e : KeyEntry 256) : (s.setTseKey k e).cr2 = s.cr2 := rfl
@[simp] theorem State.setTseKey_cr3 (s : State) (k : Nat) (e : KeyEntry 256) : (s.setTseKey k e).cr3 = s.cr3 := rfl
@[simp] theorem State.setTseKey_cr4 (s : State) (k : Nat) (e : KeyEntry 256) : (s.setTseKey k e).cr4 = s.cr4 := rfl
@[simp] theorem State.setTseKey_xcr0 (s : State) (k : Nat) (e : KeyEntry 256) : (s.setTseKey k e).xcr0 = s.xcr0 := rfl
@[simp] theorem State.setTseKey_dr0 (s : State) (k : Nat) (e : KeyEntry 256) : (s.setTseKey k e).dr0 = s.dr0 := rfl
@[simp] theorem State.setTseKey_dr1 (s : State) (k : Nat) (e : KeyEntry 256) : (s.setTseKey k e).dr1 = s.dr1 := rfl
@[simp] theorem State.setTseKey_dr2 (s : State) (k : Nat) (e : KeyEntry 256) : (s.setTseKey k e).dr2 = s.dr2 := rfl
@[simp] theorem State.setTseKey_dr3 (s : State) (k : Nat) (e : KeyEntry 256) : (s.setTseKey k e).dr3 = s.dr3 := rfl
@[simp] theorem State.setTseKey_dr7 (s : State) (k : Nat) (e : KeyEntry 256) : (s.setTseKey k e).dr7 = s.dr7 := rfl
@[simp] theorem State.setTseKey_uif (s : State) (k : Nat) (e : KeyEntry 256) : (s.setTseKey k e).uif = s.uif := rfl
@[simp] theorem State.setTseKey_mxcsr (s : State) (k : Nat) (e : KeyEntry 256) : (s.setTseKey k e).mxcsr = s.mxcsr := rfl
@[simp] theorem State.setTseKey_vregs (s : State) (k : Nat) (e : KeyEntry 256) : (s.setTseKey k e).vregs = s.vregs := rfl
@[simp] theorem State.setTseKey_tilecfg (s : State) (k : Nat) (e : KeyEntry 256) : (s.setTseKey k e).tilecfg = s.tilecfg := rfl
@[simp] theorem State.setTseKey_tiles (s : State) (k : Nat) (e : KeyEntry 256) : (s.setTseKey k e).tiles = s.tiles := rfl
@[simp] theorem State.setTseKey_msrs (s : State) (k : Nat) (e : KeyEntry 256) : (s.setTseKey k e).msrs = s.msrs := rfl
@[simp] theorem State.setTseKey_tsc (s : State) (k : Nat) (e : KeyEntry 256) : (s.setTseKey k e).tsc = s.tsc := rfl
@[simp] theorem State.setTseKey_userTimer (s : State) (k : Nat) (e : KeyEntry 256) : (s.setTseKey k e).userTimer = s.userTimer := rfl
@[simp] theorem State.setTseKey_uirr (s : State) (k : Nat) (e : KeyEntry 256) : (s.setTseKey k e).uirr = s.uirr := rfl
@[simp] theorem State.setTseKey_guestTimer (s : State) (k : Nat) (e : KeyEntry 256) : (s.setTseKey k e).guestTimer = s.guestTimer := rfl
@[simp] theorem State.setTseKey_fixedCtr0 (s : State) (k : Nat) (e : KeyEntry 256) : (s.setTseKey k e).fixedCtr0 = s.fixedCtr0 := rfl
@[simp] theorem State.setTseKey_pmuRunning (s : State) (k : Nat) (e : KeyEntry 256) : (s.setTseKey k e).pmuRunning = s.pmuRunning := rfl
@[simp] theorem State.setTseKey_tmeKeys (s : State) (k : Nat) (e : KeyEntry 256) : (s.setTseKey k e).tmeKeys = s.tmeKeys := rfl
@[simp] theorem State.setTseKey_tseKeys (s : State) (k : Nat) (e : KeyEntry 256) : (s.setTseKey k e).tseKeys = Store.set KeyEntry.unset k e s.tseKeys := rfl
@[simp] theorem State.setTseKey_monitor (s : State) (k : Nat) (e : KeyEntry 256) : (s.setTseKey k e).monitor = s.monitor := rfl
@[simp] theorem State.setTseKey_activity (s : State) (k : Nat) (e : KeyEntry 256) : (s.setTseKey k e).activity = s.activity := rfl
@[simp] theorem State.setTseKey_midList (s : State) (k : Nat) (e : KeyEntry 256) : (s.setTseKey k e).midList = s.midList := rfl
@[simp] theorem State.setTseKey_matched (s : State) (k : Nat) (e : KeyEntry 256) : (s.setTseKey k e).matched = s.matched := rfl
@[simp] theorem State.setTseKey_rao (s : State) (k : Nat) (e : KeyEntry 256) : (s.setTseKey k e).rao = s.rao := rfl
@[simp] theorem State.setTseKey_vmcs (s : State) (k : Nat) (e : KeyEntry 256) : (s.setTseKey k e).vmcs = s.vmcs := rfl
@[simp] theorem State.setTseKey_mem (s : State) (k : Nat) (e : KeyEntry 256) : (s.setTseKey k e).mem = s.mem := rfl
@[simp] theorem State.setTseKey_platform (s : State) (k : Nat) (e : KeyEntry 256) : (s.setTseKey k e).platform = s.platform := rfl
@[simp] theorem State.setTseKey_env (s : State) (k : Nat) (e : KeyEntry 256) : (s.setTseKey k e).env = s.env := rfl
@[simp] theorem State.setTseKey_pebs (s : State) (k : Nat) (e : KeyEntry 256) : (s.setTseKey k e).pebs = s.pebs := rfl
@[simp] theorem State.setTseKey_draws (s : State) (k : Nat) (e : KeyEntry 256) : (s.setTseKey k e).draws = s.draws := rfl

/-! ## completeEntry -/

@[simp] theorem State.completeEntry_rip (s : State) (i : Nat) : (s.completeEntry i).rip = s.rip := rfl
@[simp] theorem State.completeEntry_ripWrapped (s : State) (i : Nat) : (s.completeEntry i).ripWrapped = s.ripWrapped := rfl
@[simp] theorem State.completeEntry_nextRip (s : State) (i : Nat) : (s.completeEntry i).nextRip = s.nextRip := rfl
@[simp] theorem State.completeEntry_rflags (s : State) (i : Nat) : (s.completeEntry i).rflags = s.rflags := rfl
@[simp] theorem State.completeEntry_mode (s : State) (i : Nat) : (s.completeEntry i).mode = s.mode := rfl
@[simp] theorem State.completeEntry_cpl (s : State) (i : Nat) : (s.completeEntry i).cpl = s.cpl := rfl
@[simp] theorem State.completeEntry_vmx (s : State) (i : Nat) : (s.completeEntry i).vmx = s.vmx := rfl
@[simp] theorem State.completeEntry_smm (s : State) (i : Nat) : (s.completeEntry i).smm = s.smm := rfl
@[simp] theorem State.completeEntry_enclave (s : State) (i : Nat) : (s.completeEntry i).enclave = s.enclave := rfl
@[simp] theorem State.completeEntry_secsLamU48 (s : State) (i : Nat) : (s.completeEntry i).secsLamU48 = s.secsLamU48 := rfl
@[simp] theorem State.completeEntry_secsLamU57 (s : State) (i : Nat) : (s.completeEntry i).secsLamU57 = s.secsLamU57 := rfl
@[simp] theorem State.completeEntry_segs (s : State) (i : Nat) : (s.completeEntry i).segs = s.segs := rfl
@[simp] theorem State.completeEntry_cr0 (s : State) (i : Nat) : (s.completeEntry i).cr0 = s.cr0 := rfl
@[simp] theorem State.completeEntry_cr2 (s : State) (i : Nat) : (s.completeEntry i).cr2 = s.cr2 := rfl
@[simp] theorem State.completeEntry_cr3 (s : State) (i : Nat) : (s.completeEntry i).cr3 = s.cr3 := rfl
@[simp] theorem State.completeEntry_cr4 (s : State) (i : Nat) : (s.completeEntry i).cr4 = s.cr4 := rfl
@[simp] theorem State.completeEntry_xcr0 (s : State) (i : Nat) : (s.completeEntry i).xcr0 = s.xcr0 := rfl
@[simp] theorem State.completeEntry_dr0 (s : State) (i : Nat) : (s.completeEntry i).dr0 = s.dr0 := rfl
@[simp] theorem State.completeEntry_dr1 (s : State) (i : Nat) : (s.completeEntry i).dr1 = s.dr1 := rfl
@[simp] theorem State.completeEntry_dr2 (s : State) (i : Nat) : (s.completeEntry i).dr2 = s.dr2 := rfl
@[simp] theorem State.completeEntry_dr3 (s : State) (i : Nat) : (s.completeEntry i).dr3 = s.dr3 := rfl
@[simp] theorem State.completeEntry_dr7 (s : State) (i : Nat) : (s.completeEntry i).dr7 = s.dr7 := rfl
@[simp] theorem State.completeEntry_uif (s : State) (i : Nat) : (s.completeEntry i).uif = s.uif := rfl
@[simp] theorem State.completeEntry_mxcsr (s : State) (i : Nat) : (s.completeEntry i).mxcsr = s.mxcsr := rfl
@[simp] theorem State.completeEntry_vregs (s : State) (i : Nat) : (s.completeEntry i).vregs = s.vregs := rfl
@[simp] theorem State.completeEntry_tilecfg (s : State) (i : Nat) : (s.completeEntry i).tilecfg = s.tilecfg := rfl
@[simp] theorem State.completeEntry_tiles (s : State) (i : Nat) : (s.completeEntry i).tiles = s.tiles := rfl
@[simp] theorem State.completeEntry_msrs (s : State) (i : Nat) : (s.completeEntry i).msrs = s.msrs := rfl
@[simp] theorem State.completeEntry_tsc (s : State) (i : Nat) : (s.completeEntry i).tsc = s.tsc := rfl
@[simp] theorem State.completeEntry_userTimer (s : State) (i : Nat) : (s.completeEntry i).userTimer = s.userTimer := rfl
@[simp] theorem State.completeEntry_uirr (s : State) (i : Nat) : (s.completeEntry i).uirr = s.uirr := rfl
@[simp] theorem State.completeEntry_guestTimer (s : State) (i : Nat) : (s.completeEntry i).guestTimer = s.guestTimer := rfl
@[simp] theorem State.completeEntry_fixedCtr0 (s : State) (i : Nat) : (s.completeEntry i).fixedCtr0 = s.fixedCtr0 := rfl
@[simp] theorem State.completeEntry_pmuRunning (s : State) (i : Nat) : (s.completeEntry i).pmuRunning = s.pmuRunning := rfl
@[simp] theorem State.completeEntry_tmeKeys (s : State) (i : Nat) : (s.completeEntry i).tmeKeys = s.tmeKeys := rfl
@[simp] theorem State.completeEntry_tseKeys (s : State) (i : Nat) : (s.completeEntry i).tseKeys = s.tseKeys := rfl
@[simp] theorem State.completeEntry_monitor (s : State) (i : Nat) : (s.completeEntry i).monitor = s.monitor := rfl
@[simp] theorem State.completeEntry_activity (s : State) (i : Nat) : (s.completeEntry i).activity = s.activity := rfl
@[simp] theorem State.completeEntry_midList (s : State) (i : Nat) : (s.completeEntry i).midList = s.midList := rfl
@[simp] theorem State.completeEntry_matched (s : State) (i : Nat) : (s.completeEntry i).matched = s.matched := rfl
@[simp] theorem State.completeEntry_rao (s : State) (i : Nat) : (s.completeEntry i).rao = s.rao := rfl
@[simp] theorem State.completeEntry_vmcs (s : State) (i : Nat) : (s.completeEntry i).vmcs = s.vmcs := rfl
@[simp] theorem State.completeEntry_mem (s : State) (i : Nat) : (s.completeEntry i).mem = s.mem := rfl
@[simp] theorem State.completeEntry_platform (s : State) (i : Nat) : (s.completeEntry i).platform = s.platform := rfl
@[simp] theorem State.completeEntry_env (s : State) (i : Nat) : (s.completeEntry i).env = s.env := rfl
@[simp] theorem State.completeEntry_pebs (s : State) (i : Nat) : (s.completeEntry i).pebs = s.pebs := rfl
@[simp] theorem State.completeEntry_draws (s : State) (i : Nat) : (s.completeEntry i).draws = s.draws := rfl

/-! ## dropLoadAhead -/

@[simp] theorem State.dropLoadAhead_gpr (s : State) : (s.dropLoadAhead).gpr = s.gpr := rfl
@[simp] theorem State.dropLoadAhead_rip (s : State) : (s.dropLoadAhead).rip = s.rip := rfl
@[simp] theorem State.dropLoadAhead_ripWrapped (s : State) : (s.dropLoadAhead).ripWrapped = s.ripWrapped := rfl
@[simp] theorem State.dropLoadAhead_nextRip (s : State) : (s.dropLoadAhead).nextRip = s.nextRip := rfl
@[simp] theorem State.dropLoadAhead_rflags (s : State) : (s.dropLoadAhead).rflags = s.rflags := rfl
@[simp] theorem State.dropLoadAhead_mode (s : State) : (s.dropLoadAhead).mode = s.mode := rfl
@[simp] theorem State.dropLoadAhead_cpl (s : State) : (s.dropLoadAhead).cpl = s.cpl := rfl
@[simp] theorem State.dropLoadAhead_vmx (s : State) : (s.dropLoadAhead).vmx = s.vmx := rfl
@[simp] theorem State.dropLoadAhead_smm (s : State) : (s.dropLoadAhead).smm = s.smm := rfl
@[simp] theorem State.dropLoadAhead_enclave (s : State) : (s.dropLoadAhead).enclave = s.enclave := rfl
@[simp] theorem State.dropLoadAhead_secsLamU48 (s : State) : (s.dropLoadAhead).secsLamU48 = s.secsLamU48 := rfl
@[simp] theorem State.dropLoadAhead_secsLamU57 (s : State) : (s.dropLoadAhead).secsLamU57 = s.secsLamU57 := rfl
@[simp] theorem State.dropLoadAhead_segs (s : State) : (s.dropLoadAhead).segs = s.segs := rfl
@[simp] theorem State.dropLoadAhead_cr0 (s : State) : (s.dropLoadAhead).cr0 = s.cr0 := rfl
@[simp] theorem State.dropLoadAhead_cr2 (s : State) : (s.dropLoadAhead).cr2 = s.cr2 := rfl
@[simp] theorem State.dropLoadAhead_cr3 (s : State) : (s.dropLoadAhead).cr3 = s.cr3 := rfl
@[simp] theorem State.dropLoadAhead_cr4 (s : State) : (s.dropLoadAhead).cr4 = s.cr4 := rfl
@[simp] theorem State.dropLoadAhead_xcr0 (s : State) : (s.dropLoadAhead).xcr0 = s.xcr0 := rfl
@[simp] theorem State.dropLoadAhead_dr0 (s : State) : (s.dropLoadAhead).dr0 = s.dr0 := rfl
@[simp] theorem State.dropLoadAhead_dr1 (s : State) : (s.dropLoadAhead).dr1 = s.dr1 := rfl
@[simp] theorem State.dropLoadAhead_dr2 (s : State) : (s.dropLoadAhead).dr2 = s.dr2 := rfl
@[simp] theorem State.dropLoadAhead_dr3 (s : State) : (s.dropLoadAhead).dr3 = s.dr3 := rfl
@[simp] theorem State.dropLoadAhead_dr7 (s : State) : (s.dropLoadAhead).dr7 = s.dr7 := rfl
@[simp] theorem State.dropLoadAhead_uif (s : State) : (s.dropLoadAhead).uif = s.uif := rfl
@[simp] theorem State.dropLoadAhead_mxcsr (s : State) : (s.dropLoadAhead).mxcsr = s.mxcsr := rfl
@[simp] theorem State.dropLoadAhead_vregs (s : State) : (s.dropLoadAhead).vregs = s.vregs := rfl
@[simp] theorem State.dropLoadAhead_tilecfg (s : State) : (s.dropLoadAhead).tilecfg = s.tilecfg := rfl
@[simp] theorem State.dropLoadAhead_tiles (s : State) : (s.dropLoadAhead).tiles = s.tiles := rfl
@[simp] theorem State.dropLoadAhead_msrs (s : State) : (s.dropLoadAhead).msrs = s.msrs := rfl
@[simp] theorem State.dropLoadAhead_tsc (s : State) : (s.dropLoadAhead).tsc = s.tsc := rfl
@[simp] theorem State.dropLoadAhead_userTimer (s : State) : (s.dropLoadAhead).userTimer = s.userTimer := rfl
@[simp] theorem State.dropLoadAhead_uirr (s : State) : (s.dropLoadAhead).uirr = s.uirr := rfl
@[simp] theorem State.dropLoadAhead_guestTimer (s : State) : (s.dropLoadAhead).guestTimer = s.guestTimer := rfl
@[simp] theorem State.dropLoadAhead_fixedCtr0 (s : State) : (s.dropLoadAhead).fixedCtr0 = s.fixedCtr0 := rfl
@[simp] theorem State.dropLoadAhead_pmuRunning (s : State) : (s.dropLoadAhead).pmuRunning = s.pmuRunning := rfl
@[simp] theorem State.dropLoadAhead_tmeKeys (s : State) : (s.dropLoadAhead).tmeKeys = s.tmeKeys := rfl
@[simp] theorem State.dropLoadAhead_tseKeys (s : State) : (s.dropLoadAhead).tseKeys = s.tseKeys := rfl
@[simp] theorem State.dropLoadAhead_monitor (s : State) : (s.dropLoadAhead).monitor = s.monitor := rfl
@[simp] theorem State.dropLoadAhead_activity (s : State) : (s.dropLoadAhead).activity = s.activity := rfl
@[simp] theorem State.dropLoadAhead_midList (s : State) : (s.dropLoadAhead).midList = s.midList := rfl
@[simp] theorem State.dropLoadAhead_matched (s : State) : (s.dropLoadAhead).matched = s.matched := rfl
@[simp] theorem State.dropLoadAhead_rao (s : State) : (s.dropLoadAhead).rao = s.rao := rfl
@[simp] theorem State.dropLoadAhead_vmcs (s : State) : (s.dropLoadAhead).vmcs = s.vmcs := rfl
@[simp] theorem State.dropLoadAhead_mem (s : State) : (s.dropLoadAhead).mem = s.mem := rfl
@[simp] theorem State.dropLoadAhead_platform (s : State) : (s.dropLoadAhead).platform = s.platform := rfl
@[simp] theorem State.dropLoadAhead_env (s : State) : (s.dropLoadAhead).env = { s.env with loadAhead := s.env.loadAhead.tail } := rfl
@[simp] theorem State.dropLoadAhead_pebs (s : State) : (s.dropLoadAhead).pebs = s.pebs := rfl
@[simp] theorem State.dropLoadAhead_draws (s : State) : (s.dropLoadAhead).draws = s.draws := rfl

/-! ## dropQuiet -/

@[simp] theorem State.dropQuiet_gpr (s : State) : (s.dropQuiet).gpr = s.gpr := rfl
@[simp] theorem State.dropQuiet_rip (s : State) : (s.dropQuiet).rip = s.rip := rfl
@[simp] theorem State.dropQuiet_ripWrapped (s : State) : (s.dropQuiet).ripWrapped = s.ripWrapped := rfl
@[simp] theorem State.dropQuiet_nextRip (s : State) : (s.dropQuiet).nextRip = s.nextRip := rfl
@[simp] theorem State.dropQuiet_rflags (s : State) : (s.dropQuiet).rflags = s.rflags := rfl
@[simp] theorem State.dropQuiet_mode (s : State) : (s.dropQuiet).mode = s.mode := rfl
@[simp] theorem State.dropQuiet_cpl (s : State) : (s.dropQuiet).cpl = s.cpl := rfl
@[simp] theorem State.dropQuiet_vmx (s : State) : (s.dropQuiet).vmx = s.vmx := rfl
@[simp] theorem State.dropQuiet_smm (s : State) : (s.dropQuiet).smm = s.smm := rfl
@[simp] theorem State.dropQuiet_enclave (s : State) : (s.dropQuiet).enclave = s.enclave := rfl
@[simp] theorem State.dropQuiet_secsLamU48 (s : State) : (s.dropQuiet).secsLamU48 = s.secsLamU48 := rfl
@[simp] theorem State.dropQuiet_secsLamU57 (s : State) : (s.dropQuiet).secsLamU57 = s.secsLamU57 := rfl
@[simp] theorem State.dropQuiet_segs (s : State) : (s.dropQuiet).segs = s.segs := rfl
@[simp] theorem State.dropQuiet_cr0 (s : State) : (s.dropQuiet).cr0 = s.cr0 := rfl
@[simp] theorem State.dropQuiet_cr2 (s : State) : (s.dropQuiet).cr2 = s.cr2 := rfl
@[simp] theorem State.dropQuiet_cr3 (s : State) : (s.dropQuiet).cr3 = s.cr3 := rfl
@[simp] theorem State.dropQuiet_cr4 (s : State) : (s.dropQuiet).cr4 = s.cr4 := rfl
@[simp] theorem State.dropQuiet_xcr0 (s : State) : (s.dropQuiet).xcr0 = s.xcr0 := rfl
@[simp] theorem State.dropQuiet_dr0 (s : State) : (s.dropQuiet).dr0 = s.dr0 := rfl
@[simp] theorem State.dropQuiet_dr1 (s : State) : (s.dropQuiet).dr1 = s.dr1 := rfl
@[simp] theorem State.dropQuiet_dr2 (s : State) : (s.dropQuiet).dr2 = s.dr2 := rfl
@[simp] theorem State.dropQuiet_dr3 (s : State) : (s.dropQuiet).dr3 = s.dr3 := rfl
@[simp] theorem State.dropQuiet_dr7 (s : State) : (s.dropQuiet).dr7 = s.dr7 := rfl
@[simp] theorem State.dropQuiet_uif (s : State) : (s.dropQuiet).uif = s.uif := rfl
@[simp] theorem State.dropQuiet_mxcsr (s : State) : (s.dropQuiet).mxcsr = s.mxcsr := rfl
@[simp] theorem State.dropQuiet_vregs (s : State) : (s.dropQuiet).vregs = s.vregs := rfl
@[simp] theorem State.dropQuiet_tilecfg (s : State) : (s.dropQuiet).tilecfg = s.tilecfg := rfl
@[simp] theorem State.dropQuiet_tiles (s : State) : (s.dropQuiet).tiles = s.tiles := rfl
@[simp] theorem State.dropQuiet_msrs (s : State) : (s.dropQuiet).msrs = s.msrs := rfl
@[simp] theorem State.dropQuiet_tsc (s : State) : (s.dropQuiet).tsc = s.tsc := rfl
@[simp] theorem State.dropQuiet_userTimer (s : State) : (s.dropQuiet).userTimer = s.userTimer := rfl
@[simp] theorem State.dropQuiet_uirr (s : State) : (s.dropQuiet).uirr = s.uirr := rfl
@[simp] theorem State.dropQuiet_guestTimer (s : State) : (s.dropQuiet).guestTimer = s.guestTimer := rfl
@[simp] theorem State.dropQuiet_fixedCtr0 (s : State) : (s.dropQuiet).fixedCtr0 = s.fixedCtr0 := rfl
@[simp] theorem State.dropQuiet_pmuRunning (s : State) : (s.dropQuiet).pmuRunning = s.pmuRunning := rfl
@[simp] theorem State.dropQuiet_tmeKeys (s : State) : (s.dropQuiet).tmeKeys = s.tmeKeys := rfl
@[simp] theorem State.dropQuiet_tseKeys (s : State) : (s.dropQuiet).tseKeys = s.tseKeys := rfl
@[simp] theorem State.dropQuiet_monitor (s : State) : (s.dropQuiet).monitor = s.monitor := rfl
@[simp] theorem State.dropQuiet_activity (s : State) : (s.dropQuiet).activity = s.activity := rfl
@[simp] theorem State.dropQuiet_midList (s : State) : (s.dropQuiet).midList = s.midList := rfl
@[simp] theorem State.dropQuiet_matched (s : State) : (s.dropQuiet).matched = s.matched := rfl
@[simp] theorem State.dropQuiet_rao (s : State) : (s.dropQuiet).rao = s.rao := rfl
@[simp] theorem State.dropQuiet_vmcs (s : State) : (s.dropQuiet).vmcs = s.vmcs := rfl
@[simp] theorem State.dropQuiet_mem (s : State) : (s.dropQuiet).mem = s.mem := rfl
@[simp] theorem State.dropQuiet_platform (s : State) : (s.dropQuiet).platform = s.platform := rfl
@[simp] theorem State.dropQuiet_env (s : State) : (s.dropQuiet).env = { s.env with events := s.env.events.tail } := rfl
@[simp] theorem State.dropQuiet_pebs (s : State) : (s.dropQuiet).pebs = s.pebs := rfl
@[simp] theorem State.dropQuiet_draws (s : State) : (s.dropQuiet).draws = s.draws := rfl

/-! ## dropEntropy -/

@[simp] theorem State.dropEntropy_gpr (s : State) : (s.dropEntropy).gpr = s.gpr := rfl
@[simp] theorem State.dropEntropy_rip (s : State) : (s.dropEntropy).rip = s.rip := rfl
@[simp] theorem State.dropEntropy_ripWrapped (s : State) : (s.dropEntropy).ripWrapped = s.ripWrapped := rfl
@[simp] theorem State.dropEntropy_nextRip (s : State) : (s.dropEntropy).nextRip = s.nextRip := rfl
@[simp] theorem State.dropEntropy_rflags (s : State) : (s.dropEntropy).rflags = s.rflags := rfl
@[simp] theorem State.dropEntropy_mode (s : State) : (s.dropEntropy).mode = s.mode := rfl
@[simp] theorem State.dropEntropy_cpl (s : State) : (s.dropEntropy).cpl = s.cpl := rfl
@[simp] theorem State.dropEntropy_vmx (s : State) : (s.dropEntropy).vmx = s.vmx := rfl
@[simp] theorem State.dropEntropy_smm (s : State) : (s.dropEntropy).smm = s.smm := rfl
@[simp] theorem State.dropEntropy_enclave (s : State) : (s.dropEntropy).enclave = s.enclave := rfl
@[simp] theorem State.dropEntropy_secsLamU48 (s : State) : (s.dropEntropy).secsLamU48 = s.secsLamU48 := rfl
@[simp] theorem State.dropEntropy_secsLamU57 (s : State) : (s.dropEntropy).secsLamU57 = s.secsLamU57 := rfl
@[simp] theorem State.dropEntropy_segs (s : State) : (s.dropEntropy).segs = s.segs := rfl
@[simp] theorem State.dropEntropy_cr0 (s : State) : (s.dropEntropy).cr0 = s.cr0 := rfl
@[simp] theorem State.dropEntropy_cr2 (s : State) : (s.dropEntropy).cr2 = s.cr2 := rfl
@[simp] theorem State.dropEntropy_cr3 (s : State) : (s.dropEntropy).cr3 = s.cr3 := rfl
@[simp] theorem State.dropEntropy_cr4 (s : State) : (s.dropEntropy).cr4 = s.cr4 := rfl
@[simp] theorem State.dropEntropy_xcr0 (s : State) : (s.dropEntropy).xcr0 = s.xcr0 := rfl
@[simp] theorem State.dropEntropy_dr0 (s : State) : (s.dropEntropy).dr0 = s.dr0 := rfl
@[simp] theorem State.dropEntropy_dr1 (s : State) : (s.dropEntropy).dr1 = s.dr1 := rfl
@[simp] theorem State.dropEntropy_dr2 (s : State) : (s.dropEntropy).dr2 = s.dr2 := rfl
@[simp] theorem State.dropEntropy_dr3 (s : State) : (s.dropEntropy).dr3 = s.dr3 := rfl
@[simp] theorem State.dropEntropy_dr7 (s : State) : (s.dropEntropy).dr7 = s.dr7 := rfl
@[simp] theorem State.dropEntropy_uif (s : State) : (s.dropEntropy).uif = s.uif := rfl
@[simp] theorem State.dropEntropy_mxcsr (s : State) : (s.dropEntropy).mxcsr = s.mxcsr := rfl
@[simp] theorem State.dropEntropy_vregs (s : State) : (s.dropEntropy).vregs = s.vregs := rfl
@[simp] theorem State.dropEntropy_tilecfg (s : State) : (s.dropEntropy).tilecfg = s.tilecfg := rfl
@[simp] theorem State.dropEntropy_tiles (s : State) : (s.dropEntropy).tiles = s.tiles := rfl
@[simp] theorem State.dropEntropy_msrs (s : State) : (s.dropEntropy).msrs = s.msrs := rfl
@[simp] theorem State.dropEntropy_tsc (s : State) : (s.dropEntropy).tsc = s.tsc := rfl
@[simp] theorem State.dropEntropy_userTimer (s : State) : (s.dropEntropy).userTimer = s.userTimer := rfl
@[simp] theorem State.dropEntropy_uirr (s : State) : (s.dropEntropy).uirr = s.uirr := rfl
@[simp] theorem State.dropEntropy_guestTimer (s : State) : (s.dropEntropy).guestTimer = s.guestTimer := rfl
@[simp] theorem State.dropEntropy_fixedCtr0 (s : State) : (s.dropEntropy).fixedCtr0 = s.fixedCtr0 := rfl
@[simp] theorem State.dropEntropy_pmuRunning (s : State) : (s.dropEntropy).pmuRunning = s.pmuRunning := rfl
@[simp] theorem State.dropEntropy_tmeKeys (s : State) : (s.dropEntropy).tmeKeys = s.tmeKeys := rfl
@[simp] theorem State.dropEntropy_tseKeys (s : State) : (s.dropEntropy).tseKeys = s.tseKeys := rfl
@[simp] theorem State.dropEntropy_monitor (s : State) : (s.dropEntropy).monitor = s.monitor := rfl
@[simp] theorem State.dropEntropy_activity (s : State) : (s.dropEntropy).activity = s.activity := rfl
@[simp] theorem State.dropEntropy_midList (s : State) : (s.dropEntropy).midList = s.midList := rfl
@[simp] theorem State.dropEntropy_matched (s : State) : (s.dropEntropy).matched = s.matched := rfl
@[simp] theorem State.dropEntropy_rao (s : State) : (s.dropEntropy).rao = s.rao := rfl
@[simp] theorem State.dropEntropy_vmcs (s : State) : (s.dropEntropy).vmcs = s.vmcs := rfl
@[simp] theorem State.dropEntropy_mem (s : State) : (s.dropEntropy).mem = s.mem := rfl
@[simp] theorem State.dropEntropy_platform (s : State) : (s.dropEntropy).platform = s.platform := rfl
@[simp] theorem State.dropEntropy_env (s : State) : (s.dropEntropy).env = { s.env with entropyShort := s.env.entropyShort.tail } := rfl
@[simp] theorem State.dropEntropy_pebs (s : State) : (s.dropEntropy).pebs = s.pebs := rfl
@[simp] theorem State.dropEntropy_draws (s : State) : (s.dropEntropy).draws = s.draws := rfl

/-! ## dropLock -/

@[simp] theorem State.dropLock_gpr (s : State) : (s.dropLock).gpr = s.gpr := rfl
@[simp] theorem State.dropLock_rip (s : State) : (s.dropLock).rip = s.rip := rfl
@[simp] theorem State.dropLock_ripWrapped (s : State) : (s.dropLock).ripWrapped = s.ripWrapped := rfl
@[simp] theorem State.dropLock_nextRip (s : State) : (s.dropLock).nextRip = s.nextRip := rfl
@[simp] theorem State.dropLock_rflags (s : State) : (s.dropLock).rflags = s.rflags := rfl
@[simp] theorem State.dropLock_mode (s : State) : (s.dropLock).mode = s.mode := rfl
@[simp] theorem State.dropLock_cpl (s : State) : (s.dropLock).cpl = s.cpl := rfl
@[simp] theorem State.dropLock_vmx (s : State) : (s.dropLock).vmx = s.vmx := rfl
@[simp] theorem State.dropLock_smm (s : State) : (s.dropLock).smm = s.smm := rfl
@[simp] theorem State.dropLock_enclave (s : State) : (s.dropLock).enclave = s.enclave := rfl
@[simp] theorem State.dropLock_secsLamU48 (s : State) : (s.dropLock).secsLamU48 = s.secsLamU48 := rfl
@[simp] theorem State.dropLock_secsLamU57 (s : State) : (s.dropLock).secsLamU57 = s.secsLamU57 := rfl
@[simp] theorem State.dropLock_segs (s : State) : (s.dropLock).segs = s.segs := rfl
@[simp] theorem State.dropLock_cr0 (s : State) : (s.dropLock).cr0 = s.cr0 := rfl
@[simp] theorem State.dropLock_cr2 (s : State) : (s.dropLock).cr2 = s.cr2 := rfl
@[simp] theorem State.dropLock_cr3 (s : State) : (s.dropLock).cr3 = s.cr3 := rfl
@[simp] theorem State.dropLock_cr4 (s : State) : (s.dropLock).cr4 = s.cr4 := rfl
@[simp] theorem State.dropLock_xcr0 (s : State) : (s.dropLock).xcr0 = s.xcr0 := rfl
@[simp] theorem State.dropLock_dr0 (s : State) : (s.dropLock).dr0 = s.dr0 := rfl
@[simp] theorem State.dropLock_dr1 (s : State) : (s.dropLock).dr1 = s.dr1 := rfl
@[simp] theorem State.dropLock_dr2 (s : State) : (s.dropLock).dr2 = s.dr2 := rfl
@[simp] theorem State.dropLock_dr3 (s : State) : (s.dropLock).dr3 = s.dr3 := rfl
@[simp] theorem State.dropLock_dr7 (s : State) : (s.dropLock).dr7 = s.dr7 := rfl
@[simp] theorem State.dropLock_uif (s : State) : (s.dropLock).uif = s.uif := rfl
@[simp] theorem State.dropLock_mxcsr (s : State) : (s.dropLock).mxcsr = s.mxcsr := rfl
@[simp] theorem State.dropLock_vregs (s : State) : (s.dropLock).vregs = s.vregs := rfl
@[simp] theorem State.dropLock_tilecfg (s : State) : (s.dropLock).tilecfg = s.tilecfg := rfl
@[simp] theorem State.dropLock_tiles (s : State) : (s.dropLock).tiles = s.tiles := rfl
@[simp] theorem State.dropLock_msrs (s : State) : (s.dropLock).msrs = s.msrs := rfl
@[simp] theorem State.dropLock_tsc (s : State) : (s.dropLock).tsc = s.tsc := rfl
@[simp] theorem State.dropLock_userTimer (s : State) : (s.dropLock).userTimer = s.userTimer := rfl
@[simp] theorem State.dropLock_uirr (s : State) : (s.dropLock).uirr = s.uirr := rfl
@[simp] theorem State.dropLock_guestTimer (s : State) : (s.dropLock).guestTimer = s.guestTimer := rfl
@[simp] theorem State.dropLock_fixedCtr0 (s : State) : (s.dropLock).fixedCtr0 = s.fixedCtr0 := rfl
@[simp] theorem State.dropLock_pmuRunning (s : State) : (s.dropLock).pmuRunning = s.pmuRunning := rfl
@[simp] theorem State.dropLock_tmeKeys (s : State) : (s.dropLock).tmeKeys = s.tmeKeys := rfl
@[simp] theorem State.dropLock_tseKeys (s : State) : (s.dropLock).tseKeys = s.tseKeys := rfl
@[simp] theorem State.dropLock_monitor (s : State) : (s.dropLock).monitor = s.monitor := rfl
@[simp] theorem State.dropLock_activity (s : State) : (s.dropLock).activity = s.activity := rfl
@[simp] theorem State.dropLock_midList (s : State) : (s.dropLock).midList = s.midList := rfl
@[simp] theorem State.dropLock_matched (s : State) : (s.dropLock).matched = s.matched := rfl
@[simp] theorem State.dropLock_rao (s : State) : (s.dropLock).rao = s.rao := rfl
@[simp] theorem State.dropLock_vmcs (s : State) : (s.dropLock).vmcs = s.vmcs := rfl
@[simp] theorem State.dropLock_mem (s : State) : (s.dropLock).mem = s.mem := rfl
@[simp] theorem State.dropLock_platform (s : State) : (s.dropLock).platform = s.platform := rfl
@[simp] theorem State.dropLock_env (s : State) : (s.dropLock).env = { s.env with lockBusy := s.env.lockBusy.tail } := rfl
@[simp] theorem State.dropLock_pebs (s : State) : (s.dropLock).pebs = s.pebs := rfl
@[simp] theorem State.dropLock_draws (s : State) : (s.dropLock).draws = s.draws := rfl

/-! ## setUserTimer -/

@[simp] theorem State.setUserTimer_gpr (s : State) (v : QWord) : (s.setUserTimer v).gpr = s.gpr := rfl
@[simp] theorem State.setUserTimer_rip (s : State) (v : QWord) : (s.setUserTimer v).rip = s.rip := rfl
@[simp] theorem State.setUserTimer_ripWrapped (s : State) (v : QWord) : (s.setUserTimer v).ripWrapped = s.ripWrapped := rfl
@[simp] theorem State.setUserTimer_nextRip (s : State) (v : QWord) : (s.setUserTimer v).nextRip = s.nextRip := rfl
@[simp] theorem State.setUserTimer_rflags (s : State) (v : QWord) : (s.setUserTimer v).rflags = s.rflags := rfl
@[simp] theorem State.setUserTimer_mode (s : State) (v : QWord) : (s.setUserTimer v).mode = s.mode := rfl
@[simp] theorem State.setUserTimer_cpl (s : State) (v : QWord) : (s.setUserTimer v).cpl = s.cpl := rfl
@[simp] theorem State.setUserTimer_vmx (s : State) (v : QWord) : (s.setUserTimer v).vmx = s.vmx := rfl
@[simp] theorem State.setUserTimer_smm (s : State) (v : QWord) : (s.setUserTimer v).smm = s.smm := rfl
@[simp] theorem State.setUserTimer_enclave (s : State) (v : QWord) : (s.setUserTimer v).enclave = s.enclave := rfl
@[simp] theorem State.setUserTimer_secsLamU48 (s : State) (v : QWord) : (s.setUserTimer v).secsLamU48 = s.secsLamU48 := rfl
@[simp] theorem State.setUserTimer_secsLamU57 (s : State) (v : QWord) : (s.setUserTimer v).secsLamU57 = s.secsLamU57 := rfl
@[simp] theorem State.setUserTimer_segs (s : State) (v : QWord) : (s.setUserTimer v).segs = s.segs := rfl
@[simp] theorem State.setUserTimer_cr0 (s : State) (v : QWord) : (s.setUserTimer v).cr0 = s.cr0 := rfl
@[simp] theorem State.setUserTimer_cr2 (s : State) (v : QWord) : (s.setUserTimer v).cr2 = s.cr2 := rfl
@[simp] theorem State.setUserTimer_cr3 (s : State) (v : QWord) : (s.setUserTimer v).cr3 = s.cr3 := rfl
@[simp] theorem State.setUserTimer_cr4 (s : State) (v : QWord) : (s.setUserTimer v).cr4 = s.cr4 := rfl
@[simp] theorem State.setUserTimer_xcr0 (s : State) (v : QWord) : (s.setUserTimer v).xcr0 = s.xcr0 := rfl
@[simp] theorem State.setUserTimer_dr0 (s : State) (v : QWord) : (s.setUserTimer v).dr0 = s.dr0 := rfl
@[simp] theorem State.setUserTimer_dr1 (s : State) (v : QWord) : (s.setUserTimer v).dr1 = s.dr1 := rfl
@[simp] theorem State.setUserTimer_dr2 (s : State) (v : QWord) : (s.setUserTimer v).dr2 = s.dr2 := rfl
@[simp] theorem State.setUserTimer_dr3 (s : State) (v : QWord) : (s.setUserTimer v).dr3 = s.dr3 := rfl
@[simp] theorem State.setUserTimer_dr7 (s : State) (v : QWord) : (s.setUserTimer v).dr7 = s.dr7 := rfl
@[simp] theorem State.setUserTimer_uif (s : State) (v : QWord) : (s.setUserTimer v).uif = s.uif := rfl
@[simp] theorem State.setUserTimer_mxcsr (s : State) (v : QWord) : (s.setUserTimer v).mxcsr = s.mxcsr := rfl
@[simp] theorem State.setUserTimer_vregs (s : State) (v : QWord) : (s.setUserTimer v).vregs = s.vregs := rfl
@[simp] theorem State.setUserTimer_tilecfg (s : State) (v : QWord) : (s.setUserTimer v).tilecfg = s.tilecfg := rfl
@[simp] theorem State.setUserTimer_tiles (s : State) (v : QWord) : (s.setUserTimer v).tiles = s.tiles := rfl
@[simp] theorem State.setUserTimer_msrs (s : State) (v : QWord) : (s.setUserTimer v).msrs = s.msrs := rfl
@[simp] theorem State.setUserTimer_tsc (s : State) (v : QWord) : (s.setUserTimer v).tsc = s.tsc := rfl
@[simp] theorem State.setUserTimer_userTimer (s : State) (v : QWord) : (s.setUserTimer v).userTimer = { s.userTimer with deadline := v &&& ~~~0x3F, vector := v.setWidth 6 } := rfl
@[simp] theorem State.setUserTimer_uirr (s : State) (v : QWord) : (s.setUserTimer v).uirr = s.uirr := rfl
@[simp] theorem State.setUserTimer_guestTimer (s : State) (v : QWord) : (s.setUserTimer v).guestTimer = s.guestTimer := rfl
@[simp] theorem State.setUserTimer_fixedCtr0 (s : State) (v : QWord) : (s.setUserTimer v).fixedCtr0 = s.fixedCtr0 := rfl
@[simp] theorem State.setUserTimer_pmuRunning (s : State) (v : QWord) : (s.setUserTimer v).pmuRunning = s.pmuRunning := rfl
@[simp] theorem State.setUserTimer_tmeKeys (s : State) (v : QWord) : (s.setUserTimer v).tmeKeys = s.tmeKeys := rfl
@[simp] theorem State.setUserTimer_tseKeys (s : State) (v : QWord) : (s.setUserTimer v).tseKeys = s.tseKeys := rfl
@[simp] theorem State.setUserTimer_monitor (s : State) (v : QWord) : (s.setUserTimer v).monitor = s.monitor := rfl
@[simp] theorem State.setUserTimer_activity (s : State) (v : QWord) : (s.setUserTimer v).activity = s.activity := rfl
@[simp] theorem State.setUserTimer_midList (s : State) (v : QWord) : (s.setUserTimer v).midList = s.midList := rfl
@[simp] theorem State.setUserTimer_matched (s : State) (v : QWord) : (s.setUserTimer v).matched = s.matched := rfl
@[simp] theorem State.setUserTimer_rao (s : State) (v : QWord) : (s.setUserTimer v).rao = s.rao := rfl
@[simp] theorem State.setUserTimer_vmcs (s : State) (v : QWord) : (s.setUserTimer v).vmcs = s.vmcs := rfl
@[simp] theorem State.setUserTimer_mem (s : State) (v : QWord) : (s.setUserTimer v).mem = s.mem := rfl
@[simp] theorem State.setUserTimer_platform (s : State) (v : QWord) : (s.setUserTimer v).platform = s.platform := rfl
@[simp] theorem State.setUserTimer_env (s : State) (v : QWord) : (s.setUserTimer v).env = s.env := rfl
@[simp] theorem State.setUserTimer_pebs (s : State) (v : QWord) : (s.setUserTimer v).pebs = s.pebs := rfl
@[simp] theorem State.setUserTimer_draws (s : State) (v : QWord) : (s.setUserTimer v).draws = s.draws := rfl

/-! ## pauseList -/

@[simp] theorem State.pauseList_gpr (s : State) : (s.pauseList).gpr = s.gpr := rfl
@[simp] theorem State.pauseList_rip (s : State) : (s.pauseList).rip = s.rip := rfl
@[simp] theorem State.pauseList_ripWrapped (s : State) : (s.pauseList).ripWrapped = s.ripWrapped := rfl
@[simp] theorem State.pauseList_nextRip (s : State) : (s.pauseList).nextRip = s.nextRip := rfl
@[simp] theorem State.pauseList_rflags (s : State) : (s.pauseList).rflags = s.rflags := rfl
@[simp] theorem State.pauseList_mode (s : State) : (s.pauseList).mode = s.mode := rfl
@[simp] theorem State.pauseList_cpl (s : State) : (s.pauseList).cpl = s.cpl := rfl
@[simp] theorem State.pauseList_vmx (s : State) : (s.pauseList).vmx = s.vmx := rfl
@[simp] theorem State.pauseList_smm (s : State) : (s.pauseList).smm = s.smm := rfl
@[simp] theorem State.pauseList_enclave (s : State) : (s.pauseList).enclave = s.enclave := rfl
@[simp] theorem State.pauseList_secsLamU48 (s : State) : (s.pauseList).secsLamU48 = s.secsLamU48 := rfl
@[simp] theorem State.pauseList_secsLamU57 (s : State) : (s.pauseList).secsLamU57 = s.secsLamU57 := rfl
@[simp] theorem State.pauseList_segs (s : State) : (s.pauseList).segs = s.segs := rfl
@[simp] theorem State.pauseList_cr0 (s : State) : (s.pauseList).cr0 = s.cr0 := rfl
@[simp] theorem State.pauseList_cr2 (s : State) : (s.pauseList).cr2 = s.cr2 := rfl
@[simp] theorem State.pauseList_cr3 (s : State) : (s.pauseList).cr3 = s.cr3 := rfl
@[simp] theorem State.pauseList_cr4 (s : State) : (s.pauseList).cr4 = s.cr4 := rfl
@[simp] theorem State.pauseList_xcr0 (s : State) : (s.pauseList).xcr0 = s.xcr0 := rfl
@[simp] theorem State.pauseList_dr0 (s : State) : (s.pauseList).dr0 = s.dr0 := rfl
@[simp] theorem State.pauseList_dr1 (s : State) : (s.pauseList).dr1 = s.dr1 := rfl
@[simp] theorem State.pauseList_dr2 (s : State) : (s.pauseList).dr2 = s.dr2 := rfl
@[simp] theorem State.pauseList_dr3 (s : State) : (s.pauseList).dr3 = s.dr3 := rfl
@[simp] theorem State.pauseList_dr7 (s : State) : (s.pauseList).dr7 = s.dr7 := rfl
@[simp] theorem State.pauseList_uif (s : State) : (s.pauseList).uif = s.uif := rfl
@[simp] theorem State.pauseList_mxcsr (s : State) : (s.pauseList).mxcsr = s.mxcsr := rfl
@[simp] theorem State.pauseList_vregs (s : State) : (s.pauseList).vregs = s.vregs := rfl
@[simp] theorem State.pauseList_tilecfg (s : State) : (s.pauseList).tilecfg = s.tilecfg := rfl
@[simp] theorem State.pauseList_tiles (s : State) : (s.pauseList).tiles = s.tiles := rfl
@[simp] theorem State.pauseList_msrs (s : State) : (s.pauseList).msrs = s.msrs := rfl
@[simp] theorem State.pauseList_tsc (s : State) : (s.pauseList).tsc = s.tsc := rfl
@[simp] theorem State.pauseList_userTimer (s : State) : (s.pauseList).userTimer = s.userTimer := rfl
@[simp] theorem State.pauseList_uirr (s : State) : (s.pauseList).uirr = s.uirr := rfl
@[simp] theorem State.pauseList_guestTimer (s : State) : (s.pauseList).guestTimer = s.guestTimer := rfl
@[simp] theorem State.pauseList_fixedCtr0 (s : State) : (s.pauseList).fixedCtr0 = s.fixedCtr0 := rfl
@[simp] theorem State.pauseList_pmuRunning (s : State) : (s.pauseList).pmuRunning = s.pmuRunning := rfl
@[simp] theorem State.pauseList_tmeKeys (s : State) : (s.pauseList).tmeKeys = s.tmeKeys := rfl
@[simp] theorem State.pauseList_tseKeys (s : State) : (s.pauseList).tseKeys = s.tseKeys := rfl
@[simp] theorem State.pauseList_monitor (s : State) : (s.pauseList).monitor = s.monitor := rfl
@[simp] theorem State.pauseList_activity (s : State) : (s.pauseList).activity = s.activity := rfl
@[simp] theorem State.pauseList_midList (s : State) : (s.pauseList).midList = decide (s.reg rcx ≠ 0) := rfl
@[simp] theorem State.pauseList_matched (s : State) : (s.pauseList).matched = s.matched := rfl
@[simp] theorem State.pauseList_rao (s : State) : (s.pauseList).rao = s.rao := rfl
@[simp] theorem State.pauseList_vmcs (s : State) : (s.pauseList).vmcs = s.vmcs := rfl
@[simp] theorem State.pauseList_mem (s : State) : (s.pauseList).mem = s.mem := rfl
@[simp] theorem State.pauseList_platform (s : State) : (s.pauseList).platform = s.platform := rfl
@[simp] theorem State.pauseList_env (s : State) : (s.pauseList).env = s.env := rfl
@[simp] theorem State.pauseList_pebs (s : State) : (s.pauseList).pebs = s.pebs := rfl
@[simp] theorem State.pauseList_draws (s : State) : (s.pauseList).draws = s.draws := rfl

/-! ## wakeUp -/

@[simp] theorem State.wakeUp_gpr (s : State) : (s.wakeUp).gpr = s.gpr := rfl
@[simp] theorem State.wakeUp_rip (s : State) : (s.wakeUp).rip = s.rip := rfl
@[simp] theorem State.wakeUp_ripWrapped (s : State) : (s.wakeUp).ripWrapped = s.ripWrapped := rfl
@[simp] theorem State.wakeUp_nextRip (s : State) : (s.wakeUp).nextRip = s.nextRip := rfl
@[simp] theorem State.wakeUp_rflags (s : State) : (s.wakeUp).rflags = s.rflags := rfl
@[simp] theorem State.wakeUp_mode (s : State) : (s.wakeUp).mode = s.mode := rfl
@[simp] theorem State.wakeUp_cpl (s : State) : (s.wakeUp).cpl = s.cpl := rfl
@[simp] theorem State.wakeUp_vmx (s : State) : (s.wakeUp).vmx = s.vmx := rfl
@[simp] theorem State.wakeUp_smm (s : State) : (s.wakeUp).smm = s.smm := rfl
@[simp] theorem State.wakeUp_enclave (s : State) : (s.wakeUp).enclave = s.enclave := rfl
@[simp] theorem State.wakeUp_secsLamU48 (s : State) : (s.wakeUp).secsLamU48 = s.secsLamU48 := rfl
@[simp] theorem State.wakeUp_secsLamU57 (s : State) : (s.wakeUp).secsLamU57 = s.secsLamU57 := rfl
@[simp] theorem State.wakeUp_segs (s : State) : (s.wakeUp).segs = s.segs := rfl
@[simp] theorem State.wakeUp_cr0 (s : State) : (s.wakeUp).cr0 = s.cr0 := rfl
@[simp] theorem State.wakeUp_cr2 (s : State) : (s.wakeUp).cr2 = s.cr2 := rfl
@[simp] theorem State.wakeUp_cr3 (s : State) : (s.wakeUp).cr3 = s.cr3 := rfl
@[simp] theorem State.wakeUp_cr4 (s : State) : (s.wakeUp).cr4 = s.cr4 := rfl
@[simp] theorem State.wakeUp_xcr0 (s : State) : (s.wakeUp).xcr0 = s.xcr0 := rfl
@[simp] theorem State.wakeUp_dr0 (s : State) : (s.wakeUp).dr0 = s.dr0 := rfl
@[simp] theorem State.wakeUp_dr1 (s : State) : (s.wakeUp).dr1 = s.dr1 := rfl
@[simp] theorem State.wakeUp_dr2 (s : State) : (s.wakeUp).dr2 = s.dr2 := rfl
@[simp] theorem State.wakeUp_dr3 (s : State) : (s.wakeUp).dr3 = s.dr3 := rfl
@[simp] theorem State.wakeUp_dr7 (s : State) : (s.wakeUp).dr7 = s.dr7 := rfl
@[simp] theorem State.wakeUp_uif (s : State) : (s.wakeUp).uif = s.uif := rfl
@[simp] theorem State.wakeUp_mxcsr (s : State) : (s.wakeUp).mxcsr = s.mxcsr := rfl
@[simp] theorem State.wakeUp_vregs (s : State) : (s.wakeUp).vregs = s.vregs := rfl
@[simp] theorem State.wakeUp_tilecfg (s : State) : (s.wakeUp).tilecfg = s.tilecfg := rfl
@[simp] theorem State.wakeUp_tiles (s : State) : (s.wakeUp).tiles = s.tiles := rfl
@[simp] theorem State.wakeUp_msrs (s : State) : (s.wakeUp).msrs = s.msrs := rfl
@[simp] theorem State.wakeUp_tsc (s : State) : (s.wakeUp).tsc = s.tsc := rfl
@[simp] theorem State.wakeUp_userTimer (s : State) : (s.wakeUp).userTimer = s.userTimer := rfl
@[simp] theorem State.wakeUp_uirr (s : State) : (s.wakeUp).uirr = s.uirr := rfl
@[simp] theorem State.wakeUp_guestTimer (s : State) : (s.wakeUp).guestTimer = s.guestTimer := rfl
@[simp] theorem State.wakeUp_fixedCtr0 (s : State) : (s.wakeUp).fixedCtr0 = s.fixedCtr0 := rfl
@[simp] theorem State.wakeUp_pmuRunning (s : State) : (s.wakeUp).pmuRunning = s.pmuRunning := rfl
@[simp] theorem State.wakeUp_tmeKeys (s : State) : (s.wakeUp).tmeKeys = s.tmeKeys := rfl
@[simp] theorem State.wakeUp_tseKeys (s : State) : (s.wakeUp).tseKeys = s.tseKeys := rfl
@[simp] theorem State.wakeUp_activity (s : State) : (s.wakeUp).activity = .active := rfl
@[simp] theorem State.wakeUp_midList (s : State) : (s.wakeUp).midList = s.midList := rfl
@[simp] theorem State.wakeUp_matched (s : State) : (s.wakeUp).matched = s.matched := rfl
@[simp] theorem State.wakeUp_rao (s : State) : (s.wakeUp).rao = s.rao := rfl
@[simp] theorem State.wakeUp_vmcs (s : State) : (s.wakeUp).vmcs = s.vmcs := rfl
@[simp] theorem State.wakeUp_mem (s : State) : (s.wakeUp).mem = s.mem := rfl
@[simp] theorem State.wakeUp_platform (s : State) : (s.wakeUp).platform = s.platform := rfl
@[simp] theorem State.wakeUp_env (s : State) : (s.wakeUp).env = s.env := rfl
@[simp] theorem State.wakeUp_pebs (s : State) : (s.wakeUp).pebs = s.pebs := rfl
@[simp] theorem State.wakeUp_draws (s : State) : (s.wakeUp).draws = s.draws := rfl

/-! ## setCpuid -/

@[simp] theorem State.setCpuid_rip (s : State) (row : CpuidRow) : (s.setCpuid row).rip = s.rip := rfl
@[simp] theorem State.setCpuid_ripWrapped (s : State) (row : CpuidRow) : (s.setCpuid row).ripWrapped = s.ripWrapped := rfl
@[simp] theorem State.setCpuid_nextRip (s : State) (row : CpuidRow) : (s.setCpuid row).nextRip = s.nextRip := rfl
@[simp] theorem State.setCpuid_rflags (s : State) (row : CpuidRow) : (s.setCpuid row).rflags = s.rflags := rfl
@[simp] theorem State.setCpuid_mode (s : State) (row : CpuidRow) : (s.setCpuid row).mode = s.mode := rfl
@[simp] theorem State.setCpuid_cpl (s : State) (row : CpuidRow) : (s.setCpuid row).cpl = s.cpl := rfl
@[simp] theorem State.setCpuid_vmx (s : State) (row : CpuidRow) : (s.setCpuid row).vmx = s.vmx := rfl
@[simp] theorem State.setCpuid_smm (s : State) (row : CpuidRow) : (s.setCpuid row).smm = s.smm := rfl
@[simp] theorem State.setCpuid_enclave (s : State) (row : CpuidRow) : (s.setCpuid row).enclave = s.enclave := rfl
@[simp] theorem State.setCpuid_secsLamU48 (s : State) (row : CpuidRow) : (s.setCpuid row).secsLamU48 = s.secsLamU48 := rfl
@[simp] theorem State.setCpuid_secsLamU57 (s : State) (row : CpuidRow) : (s.setCpuid row).secsLamU57 = s.secsLamU57 := rfl
@[simp] theorem State.setCpuid_segs (s : State) (row : CpuidRow) : (s.setCpuid row).segs = s.segs := rfl
@[simp] theorem State.setCpuid_cr0 (s : State) (row : CpuidRow) : (s.setCpuid row).cr0 = s.cr0 := rfl
@[simp] theorem State.setCpuid_cr2 (s : State) (row : CpuidRow) : (s.setCpuid row).cr2 = s.cr2 := rfl
@[simp] theorem State.setCpuid_cr3 (s : State) (row : CpuidRow) : (s.setCpuid row).cr3 = s.cr3 := rfl
@[simp] theorem State.setCpuid_cr4 (s : State) (row : CpuidRow) : (s.setCpuid row).cr4 = s.cr4 := rfl
@[simp] theorem State.setCpuid_xcr0 (s : State) (row : CpuidRow) : (s.setCpuid row).xcr0 = s.xcr0 := rfl
@[simp] theorem State.setCpuid_dr0 (s : State) (row : CpuidRow) : (s.setCpuid row).dr0 = s.dr0 := rfl
@[simp] theorem State.setCpuid_dr1 (s : State) (row : CpuidRow) : (s.setCpuid row).dr1 = s.dr1 := rfl
@[simp] theorem State.setCpuid_dr2 (s : State) (row : CpuidRow) : (s.setCpuid row).dr2 = s.dr2 := rfl
@[simp] theorem State.setCpuid_dr3 (s : State) (row : CpuidRow) : (s.setCpuid row).dr3 = s.dr3 := rfl
@[simp] theorem State.setCpuid_dr7 (s : State) (row : CpuidRow) : (s.setCpuid row).dr7 = s.dr7 := rfl
@[simp] theorem State.setCpuid_uif (s : State) (row : CpuidRow) : (s.setCpuid row).uif = s.uif := rfl
@[simp] theorem State.setCpuid_mxcsr (s : State) (row : CpuidRow) : (s.setCpuid row).mxcsr = s.mxcsr := rfl
@[simp] theorem State.setCpuid_vregs (s : State) (row : CpuidRow) : (s.setCpuid row).vregs = s.vregs := rfl
@[simp] theorem State.setCpuid_tilecfg (s : State) (row : CpuidRow) : (s.setCpuid row).tilecfg = s.tilecfg := rfl
@[simp] theorem State.setCpuid_tiles (s : State) (row : CpuidRow) : (s.setCpuid row).tiles = s.tiles := rfl
@[simp] theorem State.setCpuid_msrs (s : State) (row : CpuidRow) : (s.setCpuid row).msrs = s.msrs := rfl
@[simp] theorem State.setCpuid_tsc (s : State) (row : CpuidRow) : (s.setCpuid row).tsc = s.tsc := rfl
@[simp] theorem State.setCpuid_userTimer (s : State) (row : CpuidRow) : (s.setCpuid row).userTimer = s.userTimer := rfl
@[simp] theorem State.setCpuid_uirr (s : State) (row : CpuidRow) : (s.setCpuid row).uirr = s.uirr := rfl
@[simp] theorem State.setCpuid_guestTimer (s : State) (row : CpuidRow) : (s.setCpuid row).guestTimer = s.guestTimer := rfl
@[simp] theorem State.setCpuid_fixedCtr0 (s : State) (row : CpuidRow) : (s.setCpuid row).fixedCtr0 = s.fixedCtr0 := rfl
@[simp] theorem State.setCpuid_pmuRunning (s : State) (row : CpuidRow) : (s.setCpuid row).pmuRunning = s.pmuRunning := rfl
@[simp] theorem State.setCpuid_tmeKeys (s : State) (row : CpuidRow) : (s.setCpuid row).tmeKeys = s.tmeKeys := rfl
@[simp] theorem State.setCpuid_tseKeys (s : State) (row : CpuidRow) : (s.setCpuid row).tseKeys = s.tseKeys := rfl
@[simp] theorem State.setCpuid_monitor (s : State) (row : CpuidRow) : (s.setCpuid row).monitor = s.monitor := rfl
@[simp] theorem State.setCpuid_activity (s : State) (row : CpuidRow) : (s.setCpuid row).activity = s.activity := rfl
@[simp] theorem State.setCpuid_midList (s : State) (row : CpuidRow) : (s.setCpuid row).midList = s.midList := rfl
@[simp] theorem State.setCpuid_matched (s : State) (row : CpuidRow) : (s.setCpuid row).matched = s.matched := rfl
@[simp] theorem State.setCpuid_rao (s : State) (row : CpuidRow) : (s.setCpuid row).rao = s.rao := rfl
@[simp] theorem State.setCpuid_vmcs (s : State) (row : CpuidRow) : (s.setCpuid row).vmcs = s.vmcs := rfl
@[simp] theorem State.setCpuid_mem (s : State) (row : CpuidRow) : (s.setCpuid row).mem = s.mem := rfl
@[simp] theorem State.setCpuid_platform (s : State) (row : CpuidRow) : (s.setCpuid row).platform = s.platform := rfl
@[simp] theorem State.setCpuid_env (s : State) (row : CpuidRow) : (s.setCpuid row).env = s.env := rfl
@[simp] theorem State.setCpuid_pebs (s : State) (row : CpuidRow) : (s.setCpuid row).pebs = s.pebs := rfl
@[simp] theorem State.setCpuid_draws (s : State) (row : CpuidRow) : (s.setCpuid row).draws = s.draws := rfl

/-! ## markResume -/

@[simp] theorem State.markResume_gpr (s : State) : (s.markResume).gpr = s.gpr := by unfold State.markResume; split <;> rfl
@[simp] theorem State.markResume_rip (s : State) : (s.markResume).rip = s.rip := by unfold State.markResume; split <;> rfl
@[simp] theorem State.markResume_ripWrapped (s : State) : (s.markResume).ripWrapped = s.ripWrapped := by unfold State.markResume; split <;> rfl
@[simp] theorem State.markResume_nextRip (s : State) : (s.markResume).nextRip = s.nextRip := by unfold State.markResume; split <;> rfl
@[simp] theorem State.markResume_mode (s : State) : (s.markResume).mode = s.mode := by unfold State.markResume; split <;> rfl
@[simp] theorem State.markResume_cpl (s : State) : (s.markResume).cpl = s.cpl := by unfold State.markResume; split <;> rfl
@[simp] theorem State.markResume_vmx (s : State) : (s.markResume).vmx = s.vmx := by unfold State.markResume; split <;> rfl
@[simp] theorem State.markResume_smm (s : State) : (s.markResume).smm = s.smm := by unfold State.markResume; split <;> rfl
@[simp] theorem State.markResume_enclave (s : State) : (s.markResume).enclave = s.enclave := by unfold State.markResume; split <;> rfl
@[simp] theorem State.markResume_secsLamU48 (s : State) : (s.markResume).secsLamU48 = s.secsLamU48 := by unfold State.markResume; split <;> rfl
@[simp] theorem State.markResume_secsLamU57 (s : State) : (s.markResume).secsLamU57 = s.secsLamU57 := by unfold State.markResume; split <;> rfl
@[simp] theorem State.markResume_segs (s : State) : (s.markResume).segs = s.segs := by unfold State.markResume; split <;> rfl
@[simp] theorem State.markResume_cr0 (s : State) : (s.markResume).cr0 = s.cr0 := by unfold State.markResume; split <;> rfl
@[simp] theorem State.markResume_cr2 (s : State) : (s.markResume).cr2 = s.cr2 := by unfold State.markResume; split <;> rfl
@[simp] theorem State.markResume_cr3 (s : State) : (s.markResume).cr3 = s.cr3 := by unfold State.markResume; split <;> rfl
@[simp] theorem State.markResume_cr4 (s : State) : (s.markResume).cr4 = s.cr4 := by unfold State.markResume; split <;> rfl
@[simp] theorem State.markResume_xcr0 (s : State) : (s.markResume).xcr0 = s.xcr0 := by unfold State.markResume; split <;> rfl
@[simp] theorem State.markResume_dr0 (s : State) : (s.markResume).dr0 = s.dr0 := by unfold State.markResume; split <;> rfl
@[simp] theorem State.markResume_dr1 (s : State) : (s.markResume).dr1 = s.dr1 := by unfold State.markResume; split <;> rfl
@[simp] theorem State.markResume_dr2 (s : State) : (s.markResume).dr2 = s.dr2 := by unfold State.markResume; split <;> rfl
@[simp] theorem State.markResume_dr3 (s : State) : (s.markResume).dr3 = s.dr3 := by unfold State.markResume; split <;> rfl
@[simp] theorem State.markResume_dr7 (s : State) : (s.markResume).dr7 = s.dr7 := by unfold State.markResume; split <;> rfl
@[simp] theorem State.markResume_uif (s : State) : (s.markResume).uif = s.uif := by unfold State.markResume; split <;> rfl
@[simp] theorem State.markResume_mxcsr (s : State) : (s.markResume).mxcsr = s.mxcsr := by unfold State.markResume; split <;> rfl
@[simp] theorem State.markResume_vregs (s : State) : (s.markResume).vregs = s.vregs := by unfold State.markResume; split <;> rfl
@[simp] theorem State.markResume_tilecfg (s : State) : (s.markResume).tilecfg = s.tilecfg := by unfold State.markResume; split <;> rfl
@[simp] theorem State.markResume_tiles (s : State) : (s.markResume).tiles = s.tiles := by unfold State.markResume; split <;> rfl
@[simp] theorem State.markResume_msrs (s : State) : (s.markResume).msrs = s.msrs := by unfold State.markResume; split <;> rfl
@[simp] theorem State.markResume_tsc (s : State) : (s.markResume).tsc = s.tsc := by unfold State.markResume; split <;> rfl
@[simp] theorem State.markResume_userTimer (s : State) : (s.markResume).userTimer = s.userTimer := by unfold State.markResume; split <;> rfl
@[simp] theorem State.markResume_uirr (s : State) : (s.markResume).uirr = s.uirr := by unfold State.markResume; split <;> rfl
@[simp] theorem State.markResume_guestTimer (s : State) : (s.markResume).guestTimer = s.guestTimer := by unfold State.markResume; split <;> rfl
@[simp] theorem State.markResume_fixedCtr0 (s : State) : (s.markResume).fixedCtr0 = s.fixedCtr0 := by unfold State.markResume; split <;> rfl
@[simp] theorem State.markResume_pmuRunning (s : State) : (s.markResume).pmuRunning = s.pmuRunning := by unfold State.markResume; split <;> rfl
@[simp] theorem State.markResume_tmeKeys (s : State) : (s.markResume).tmeKeys = s.tmeKeys := by unfold State.markResume; split <;> rfl
@[simp] theorem State.markResume_tseKeys (s : State) : (s.markResume).tseKeys = s.tseKeys := by unfold State.markResume; split <;> rfl
@[simp] theorem State.markResume_monitor (s : State) : (s.markResume).monitor = s.monitor := by unfold State.markResume; split <;> rfl
@[simp] theorem State.markResume_activity (s : State) : (s.markResume).activity = s.activity := by unfold State.markResume; split <;> rfl
@[simp] theorem State.markResume_midList (s : State) : (s.markResume).midList = s.midList := by unfold State.markResume; split <;> rfl
@[simp] theorem State.markResume_matched (s : State) : (s.markResume).matched = s.matched := by unfold State.markResume; split <;> rfl
@[simp] theorem State.markResume_rao (s : State) : (s.markResume).rao = s.rao := by unfold State.markResume; split <;> rfl
@[simp] theorem State.markResume_vmcs (s : State) : (s.markResume).vmcs = s.vmcs := by unfold State.markResume; split <;> rfl
@[simp] theorem State.markResume_mem (s : State) : (s.markResume).mem = s.mem := by unfold State.markResume; split <;> rfl
@[simp] theorem State.markResume_platform (s : State) : (s.markResume).platform = s.platform := by unfold State.markResume; split <;> rfl
@[simp] theorem State.markResume_env (s : State) : (s.markResume).env = s.env := by unfold State.markResume; split <;> rfl
@[simp] theorem State.markResume_pebs (s : State) : (s.markResume).pebs = s.pebs := by unfold State.markResume; split <;> rfl
@[simp] theorem State.markResume_draws (s : State) : (s.markResume).draws = s.draws := by unfold State.markResume; split <;> rfl

/-! ## lbrPush -/

@[simp] theorem lbrPush_gpr (s : State) : (lbrPush s).gpr = s.gpr := by unfold lbrPush; split <;> rfl
@[simp] theorem lbrPush_rip (s : State) : (lbrPush s).rip = s.rip := by unfold lbrPush; split <;> rfl
@[simp] theorem lbrPush_ripWrapped (s : State) : (lbrPush s).ripWrapped = s.ripWrapped := by unfold lbrPush; split <;> rfl
@[simp] theorem lbrPush_nextRip (s : State) : (lbrPush s).nextRip = s.nextRip := by unfold lbrPush; split <;> rfl
@[simp] theorem lbrPush_rflags (s : State) : (lbrPush s).rflags = s.rflags := by unfold lbrPush; split <;> rfl
@[simp] theorem lbrPush_mode (s : State) : (lbrPush s).mode = s.mode := by unfold lbrPush; split <;> rfl
@[simp] theorem lbrPush_cpl (s : State) : (lbrPush s).cpl = s.cpl := by unfold lbrPush; split <;> rfl
@[simp] theorem lbrPush_vmx (s : State) : (lbrPush s).vmx = s.vmx := by unfold lbrPush; split <;> rfl
@[simp] theorem lbrPush_smm (s : State) : (lbrPush s).smm = s.smm := by unfold lbrPush; split <;> rfl
@[simp] theorem lbrPush_enclave (s : State) : (lbrPush s).enclave = s.enclave := by unfold lbrPush; split <;> rfl
@[simp] theorem lbrPush_secsLamU48 (s : State) : (lbrPush s).secsLamU48 = s.secsLamU48 := by unfold lbrPush; split <;> rfl
@[simp] theorem lbrPush_secsLamU57 (s : State) : (lbrPush s).secsLamU57 = s.secsLamU57 := by unfold lbrPush; split <;> rfl
@[simp] theorem lbrPush_segs (s : State) : (lbrPush s).segs = s.segs := by unfold lbrPush; split <;> rfl
@[simp] theorem lbrPush_cr0 (s : State) : (lbrPush s).cr0 = s.cr0 := by unfold lbrPush; split <;> rfl
@[simp] theorem lbrPush_cr2 (s : State) : (lbrPush s).cr2 = s.cr2 := by unfold lbrPush; split <;> rfl
@[simp] theorem lbrPush_cr3 (s : State) : (lbrPush s).cr3 = s.cr3 := by unfold lbrPush; split <;> rfl
@[simp] theorem lbrPush_cr4 (s : State) : (lbrPush s).cr4 = s.cr4 := by unfold lbrPush; split <;> rfl
@[simp] theorem lbrPush_xcr0 (s : State) : (lbrPush s).xcr0 = s.xcr0 := by unfold lbrPush; split <;> rfl
@[simp] theorem lbrPush_dr0 (s : State) : (lbrPush s).dr0 = s.dr0 := by unfold lbrPush; split <;> rfl
@[simp] theorem lbrPush_dr1 (s : State) : (lbrPush s).dr1 = s.dr1 := by unfold lbrPush; split <;> rfl
@[simp] theorem lbrPush_dr2 (s : State) : (lbrPush s).dr2 = s.dr2 := by unfold lbrPush; split <;> rfl
@[simp] theorem lbrPush_dr3 (s : State) : (lbrPush s).dr3 = s.dr3 := by unfold lbrPush; split <;> rfl
@[simp] theorem lbrPush_dr7 (s : State) : (lbrPush s).dr7 = s.dr7 := by unfold lbrPush; split <;> rfl
@[simp] theorem lbrPush_uif (s : State) : (lbrPush s).uif = s.uif := by unfold lbrPush; split <;> rfl
@[simp] theorem lbrPush_mxcsr (s : State) : (lbrPush s).mxcsr = s.mxcsr := by unfold lbrPush; split <;> rfl
@[simp] theorem lbrPush_vregs (s : State) : (lbrPush s).vregs = s.vregs := by unfold lbrPush; split <;> rfl
@[simp] theorem lbrPush_tilecfg (s : State) : (lbrPush s).tilecfg = s.tilecfg := by unfold lbrPush; split <;> rfl
@[simp] theorem lbrPush_tiles (s : State) : (lbrPush s).tiles = s.tiles := by unfold lbrPush; split <;> rfl
@[simp] theorem lbrPush_tsc (s : State) : (lbrPush s).tsc = s.tsc := by unfold lbrPush; split <;> rfl
@[simp] theorem lbrPush_userTimer (s : State) : (lbrPush s).userTimer = s.userTimer := by unfold lbrPush; split <;> rfl
@[simp] theorem lbrPush_uirr (s : State) : (lbrPush s).uirr = s.uirr := by unfold lbrPush; split <;> rfl
@[simp] theorem lbrPush_guestTimer (s : State) : (lbrPush s).guestTimer = s.guestTimer := by unfold lbrPush; split <;> rfl
@[simp] theorem lbrPush_fixedCtr0 (s : State) : (lbrPush s).fixedCtr0 = s.fixedCtr0 := by unfold lbrPush; split <;> rfl
@[simp] theorem lbrPush_pmuRunning (s : State) : (lbrPush s).pmuRunning = s.pmuRunning := by unfold lbrPush; split <;> rfl
@[simp] theorem lbrPush_tmeKeys (s : State) : (lbrPush s).tmeKeys = s.tmeKeys := by unfold lbrPush; split <;> rfl
@[simp] theorem lbrPush_tseKeys (s : State) : (lbrPush s).tseKeys = s.tseKeys := by unfold lbrPush; split <;> rfl
@[simp] theorem lbrPush_monitor (s : State) : (lbrPush s).monitor = s.monitor := by unfold lbrPush; split <;> rfl
@[simp] theorem lbrPush_activity (s : State) : (lbrPush s).activity = s.activity := by unfold lbrPush; split <;> rfl
@[simp] theorem lbrPush_midList (s : State) : (lbrPush s).midList = s.midList := by unfold lbrPush; split <;> rfl
@[simp] theorem lbrPush_matched (s : State) : (lbrPush s).matched = s.matched := by unfold lbrPush; split <;> rfl
@[simp] theorem lbrPush_rao (s : State) : (lbrPush s).rao = s.rao := by unfold lbrPush; split <;> rfl
@[simp] theorem lbrPush_vmcs (s : State) : (lbrPush s).vmcs = s.vmcs := by unfold lbrPush; split <;> rfl
@[simp] theorem lbrPush_mem (s : State) : (lbrPush s).mem = s.mem := by unfold lbrPush; split <;> rfl
@[simp] theorem lbrPush_platform (s : State) : (lbrPush s).platform = s.platform := by unfold lbrPush; split <;> rfl
@[simp] theorem lbrPush_env (s : State) : (lbrPush s).env = s.env := by unfold lbrPush; split <;> rfl
@[simp] theorem lbrPush_pebs (s : State) : (lbrPush s).pebs = s.pebs := by unfold lbrPush; split <;> rfl

/-! ## Registers through the updates -/

/-- A register reads the value last written to it. -/
@[simp] theorem State.reg_setReg_same (s : State) (r : RegNum) (v : QWord) : (s.setReg r v).reg r = v := by
  simp [State.reg]

/-- A write leaves the other registers alone. -/
theorem State.reg_setReg_other (s : State) {r q : RegNum} (v : QWord) (h : q ≠ r) : (s.setReg r v).reg q = s.reg q := by
  have : r.toNat ≠ q.toNat := fun e => h (BitVec.eq_of_toNat_eq e.symm)
  simp [State.reg, Vector.getElem_set_ne, this]

/-- A 32-bit write reads back zero-extended. -/
@[simp] theorem State.reg_setReg32_same (s : State) (r : RegNum) (v : DWord) : (s.setReg32 r v).reg r = v.setWidth 64 :=
  State.reg_setReg_same s r _

/-- A 32-bit write leaves the other registers alone. -/
theorem State.reg_setReg32_other (s : State) {r q : RegNum} (v : DWord) (h : q ≠ r) :
    (s.setReg32 r v).reg q = s.reg q := State.reg_setReg_other s _ h

/-- A vector register reads the value last written to it. -/
@[simp] theorem State.vreg_setVreg_same (s : State) (r : RegNum) (v : Vec) : (s.setVreg r v).vreg r = v := by
  simp [State.vreg]

/-- A write leaves the other vector registers alone. -/
theorem State.vreg_setVreg_other (s : State) {r q : RegNum} (v : Vec) (h : q ≠ r) :
    (s.setVreg r v).vreg q = s.vreg q := by
  have : r.toNat ≠ q.toNat := fun e => h (BitVec.eq_of_toNat_eq e.symm)
  simp [State.vreg, Vector.getElem_set_ne, this]

@[simp] theorem State.setReg_vreg (s : State) (r : RegNum) (v : QWord) (q : RegNum) : (s.setReg r v).vreg q = s.vreg q := rfl
@[simp] theorem State.setReg_bytesAt (s : State) (r : RegNum) (v : QWord) (l : List Nat) : (s.setReg r v).bytesAt l = s.bytesAt l := rfl
@[simp] theorem State.setReg_tile (s : State) (r : RegNum) (v : QWord) (q : RegNum) : (s.setReg r v).tile q = s.tile q := rfl
@[simp] theorem State.setReg32_vreg (s : State) (r : RegNum) (v : DWord) (q : RegNum) : (s.setReg32 r v).vreg q = s.vreg q := rfl
@[simp] theorem State.setReg32_bytesAt (s : State) (r : RegNum) (v : DWord) (l : List Nat) : (s.setReg32 r v).bytesAt l = s.bytesAt l := rfl
@[simp] theorem State.setReg32_tile (s : State) (r : RegNum) (v : DWord) (q : RegNum) : (s.setReg32 r v).tile q = s.tile q := rfl
@[simp] theorem State.setVreg_reg (s : State) (r : RegNum) (v : Vec) (q : RegNum) : (s.setVreg r v).reg q = s.reg q := rfl
@[simp] theorem State.setVreg_bytesAt (s : State) (r : RegNum) (v : Vec) (l : List Nat) : (s.setVreg r v).bytesAt l = s.bytesAt l := rfl
@[simp] theorem State.setVreg_tile (s : State) (r : RegNum) (v : Vec) (q : RegNum) : (s.setVreg r v).tile q = s.tile q := rfl
@[simp] theorem State.retireTo_reg (s : State) (pc : QWord) (q : RegNum) : (s.retireTo pc).reg q = s.reg q := rfl
@[simp] theorem State.retireTo_vreg (s : State) (pc : QWord) (q : RegNum) : (s.retireTo pc).vreg q = s.vreg q := rfl
@[simp] theorem State.retireTo_bytesAt (s : State) (pc : QWord) (l : List Nat) : (s.retireTo pc).bytesAt l = s.bytesAt l := rfl
@[simp] theorem State.retireTo_tile (s : State) (pc : QWord) (q : RegNum) : (s.retireTo pc).tile q = s.tile q := rfl
@[simp] theorem State.retire_reg (s : State) (q : RegNum) : (s.retire).reg q = s.reg q := rfl
@[simp] theorem State.retire_vreg (s : State) (q : RegNum) : (s.retire).vreg q = s.vreg q := rfl
@[simp] theorem State.retire_bytesAt (s : State) (l : List Nat) : (s.retire).bytesAt l = s.bytesAt l := rfl
@[simp] theorem State.retire_tile (s : State) (q : RegNum) : (s.retire).tile q = s.tile q := rfl
@[simp] theorem State.withNext_reg (s : State) (n : Nat) (q : RegNum) : (s.withNext n).reg q = s.reg q := rfl
@[simp] theorem State.withNext_vreg (s : State) (n : Nat) (q : RegNum) : (s.withNext n).vreg q = s.vreg q := rfl
@[simp] theorem State.withNext_bytesAt (s : State) (n : Nat) (l : List Nat) : (s.withNext n).bytesAt l = s.bytesAt l := rfl
@[simp] theorem State.withNext_tile (s : State) (n : Nat) (q : RegNum) : (s.withNext n).tile q = s.tile q := rfl
@[simp] theorem State.storeBytes_reg (s : State) (pas : List Nat) (bs : List Byte) (q : RegNum) : (s.storeBytes pas bs).reg q = s.reg q := rfl
@[simp] theorem State.storeBytes_vreg (s : State) (pas : List Nat) (bs : List Byte) (q : RegNum) : (s.storeBytes pas bs).vreg q = s.vreg q := rfl
@[simp] theorem State.storeBytes_tile (s : State) (pas : List Nat) (bs : List Byte) (q : RegNum) : (s.storeBytes pas bs).tile q = s.tile q := rfl
@[simp] theorem State.drew_reg (s : State) (q : RegNum) : (s.drew).reg q = s.reg q := rfl
@[simp] theorem State.drew_vreg (s : State) (q : RegNum) : (s.drew).vreg q = s.vreg q := rfl
@[simp] theorem State.drew_bytesAt (s : State) (l : List Nat) : (s.drew).bytesAt l = s.bytesAt l := rfl
@[simp] theorem State.drew_tile (s : State) (q : RegNum) : (s.drew).tile q = s.tile q := rfl
@[simp] theorem State.setTile_reg (s : State) (d : RegNum) (v : Vector Vec 16) (q : RegNum) : (s.setTile d v).reg q = s.reg q := rfl
@[simp] theorem State.setTile_vreg (s : State) (d : RegNum) (v : Vector Vec 16) (q : RegNum) : (s.setTile d v).vreg q = s.vreg q := rfl
@[simp] theorem State.setTile_bytesAt (s : State) (d : RegNum) (v : Vector Vec 16) (l : List Nat) : (s.setTile d v).bytesAt l = s.bytesAt l := rfl
@[simp] theorem State.zeroStartRow_reg (s : State) (q : RegNum) : (s.zeroStartRow).reg q = s.reg q := rfl
@[simp] theorem State.zeroStartRow_vreg (s : State) (q : RegNum) : (s.zeroStartRow).vreg q = s.vreg q := rfl
@[simp] theorem State.zeroStartRow_bytesAt (s : State) (l : List Nat) : (s.zeroStartRow).bytesAt l = s.bytesAt l := rfl
@[simp] theorem State.zeroStartRow_tile (s : State) (q : RegNum) : (s.zeroStartRow).tile q = s.tile q := rfl
@[simp] theorem State.setTmeKey_reg (s : State) (k : Nat) (e : KeyEntry 512) (q : RegNum) : (s.setTmeKey k e).reg q = s.reg q := rfl
@[simp] theorem State.setTmeKey_vreg (s : State) (k : Nat) (e : KeyEntry 512) (q : RegNum) : (s.setTmeKey k e).vreg q = s.vreg q := rfl
@[simp] theorem State.setTmeKey_bytesAt (s : State) (k : Nat) (e : KeyEntry 512) (l : List Nat) : (s.setTmeKey k e).bytesAt l = s.bytesAt l := rfl
@[simp] theorem State.setTmeKey_tile (s : State) (k : Nat) (e : KeyEntry 512) (q : RegNum) : (s.setTmeKey k e).tile q = s.tile q := rfl
@[simp] theorem State.setTseKey_reg (s : State) (k : Nat) (e : KeyEntry 256) (q : RegNum) : (s.setTseKey k e).reg q = s.reg q := rfl
@[simp] theorem State.setTseKey_vreg (s : State) (k : Nat) (e : KeyEntry 256) (q : RegNum) : (s.setTseKey k e).vreg q = s.vreg q := rfl
@[simp] theorem State.setTseKey_bytesAt (s : State) (k : Nat) (e : KeyEntry 256) (l : List Nat) : (s.setTseKey k e).bytesAt l = s.bytesAt l := rfl
@[simp] theorem State.setTseKey_tile (s : State) (k : Nat) (e : KeyEntry 256) (q : RegNum) : (s.setTseKey k e).tile q = s.tile q := rfl
@[simp] theorem State.completeEntry_vreg (s : State) (i : Nat) (q : RegNum) : (s.completeEntry i).vreg q = s.vreg q := rfl
@[simp] theorem State.completeEntry_bytesAt (s : State) (i : Nat) (l : List Nat) : (s.completeEntry i).bytesAt l = s.bytesAt l := rfl
@[simp] theorem State.completeEntry_tile (s : State) (i : Nat) (q : RegNum) : (s.completeEntry i).tile q = s.tile q := rfl
@[simp] theorem State.dropLoadAhead_reg (s : State) (q : RegNum) : (s.dropLoadAhead).reg q = s.reg q := rfl
@[simp] theorem State.dropLoadAhead_vreg (s : State) (q : RegNum) : (s.dropLoadAhead).vreg q = s.vreg q := rfl
@[simp] theorem State.dropLoadAhead_bytesAt (s : State) (l : List Nat) : (s.dropLoadAhead).bytesAt l = s.bytesAt l := rfl
@[simp] theorem State.dropLoadAhead_tile (s : State) (q : RegNum) : (s.dropLoadAhead).tile q = s.tile q := rfl
@[simp] theorem State.dropQuiet_reg (s : State) (q : RegNum) : (s.dropQuiet).reg q = s.reg q := rfl
@[simp] theorem State.dropQuiet_vreg (s : State) (q : RegNum) : (s.dropQuiet).vreg q = s.vreg q := rfl
@[simp] theorem State.dropQuiet_bytesAt (s : State) (l : List Nat) : (s.dropQuiet).bytesAt l = s.bytesAt l := rfl
@[simp] theorem State.dropQuiet_tile (s : State) (q : RegNum) : (s.dropQuiet).tile q = s.tile q := rfl
@[simp] theorem State.dropEntropy_reg (s : State) (q : RegNum) : (s.dropEntropy).reg q = s.reg q := rfl
@[simp] theorem State.dropEntropy_vreg (s : State) (q : RegNum) : (s.dropEntropy).vreg q = s.vreg q := rfl
@[simp] theorem State.dropEntropy_bytesAt (s : State) (l : List Nat) : (s.dropEntropy).bytesAt l = s.bytesAt l := rfl
@[simp] theorem State.dropEntropy_tile (s : State) (q : RegNum) : (s.dropEntropy).tile q = s.tile q := rfl
@[simp] theorem State.dropLock_reg (s : State) (q : RegNum) : (s.dropLock).reg q = s.reg q := rfl
@[simp] theorem State.dropLock_vreg (s : State) (q : RegNum) : (s.dropLock).vreg q = s.vreg q := rfl
@[simp] theorem State.dropLock_bytesAt (s : State) (l : List Nat) : (s.dropLock).bytesAt l = s.bytesAt l := rfl
@[simp] theorem State.dropLock_tile (s : State) (q : RegNum) : (s.dropLock).tile q = s.tile q := rfl
@[simp] theorem State.setUserTimer_reg (s : State) (v : QWord) (q : RegNum) : (s.setUserTimer v).reg q = s.reg q := rfl
@[simp] theorem State.setUserTimer_vreg (s : State) (v : QWord) (q : RegNum) : (s.setUserTimer v).vreg q = s.vreg q := rfl
@[simp] theorem State.setUserTimer_bytesAt (s : State) (v : QWord) (l : List Nat) : (s.setUserTimer v).bytesAt l = s.bytesAt l := rfl
@[simp] theorem State.setUserTimer_tile (s : State) (v : QWord) (q : RegNum) : (s.setUserTimer v).tile q = s.tile q := rfl
@[simp] theorem State.pauseList_reg (s : State) (q : RegNum) : (s.pauseList).reg q = s.reg q := rfl
@[simp] theorem State.pauseList_vreg (s : State) (q : RegNum) : (s.pauseList).vreg q = s.vreg q := rfl
@[simp] theorem State.pauseList_bytesAt (s : State) (l : List Nat) : (s.pauseList).bytesAt l = s.bytesAt l := rfl
@[simp] theorem State.pauseList_tile (s : State) (q : RegNum) : (s.pauseList).tile q = s.tile q := rfl
@[simp] theorem State.wakeUp_reg (s : State) (q : RegNum) : (s.wakeUp).reg q = s.reg q := rfl
@[simp] theorem State.wakeUp_vreg (s : State) (q : RegNum) : (s.wakeUp).vreg q = s.vreg q := rfl
@[simp] theorem State.wakeUp_bytesAt (s : State) (l : List Nat) : (s.wakeUp).bytesAt l = s.bytesAt l := rfl
@[simp] theorem State.wakeUp_tile (s : State) (q : RegNum) : (s.wakeUp).tile q = s.tile q := rfl
@[simp] theorem State.setCpuid_vreg (s : State) (row : CpuidRow) (q : RegNum) : (s.setCpuid row).vreg q = s.vreg q := rfl
@[simp] theorem State.setCpuid_bytesAt (s : State) (row : CpuidRow) (l : List Nat) : (s.setCpuid row).bytesAt l = s.bytesAt l := rfl
@[simp] theorem State.setCpuid_tile (s : State) (row : CpuidRow) (q : RegNum) : (s.setCpuid row).tile q = s.tile q := rfl

end Sys2Proof.Machine
end

