-- ==== Sys2Proof/Laws/Store.lean ====
section
/-! SUPPORT. Laws of stores and of physical memory: read after write, and that every operation keeps the canonical
form. -/

namespace Sys2Proof.Machine

/-! ## Canonical form -/

/-- Below every key of a store the value is the default. -/
theorem Store.get_eq_default {α : Type} {d : α} {k : Nat} {m : Store α} (h : ∀ e ∈ m, k < e.1) :
    Store.get d k m = d := by
  induction m with
  | nil => rfl
  | cons e rest ih =>
    obtain ⟨j, v⟩ := e
    have hj : k < j := h (j, v) (by simp)
    simp only [Store.get, Nat.ne_of_lt hj, if_false]
    exact ih fun e he => h e (by simp [he])

variable {α : Type} [DecidableEq α]

/-- The head of a canonical store is not the default value, lies below the rest, and the rest is canonical. -/
theorem Store.wf_cons {d v : α} {k : Nat} {rest : Store α} :
    Store.wf d ((k, v) :: rest) = true ↔ v ≠ d ∧ (∀ e ∈ rest, k < e.1) ∧ Store.wf d rest = true := by
  simp [Store.wf, and_assoc]

/-- Every key of a store after `set` was there or is the key set. -/
theorem Store.mem_set {d v : α} {k : Nat} {m : Store α} {e : Nat × α} (h : e ∈ Store.set d k v m) :
    e ∈ m ∨ e.1 = k := by
  induction m with
  | nil =>
    simp only [Store.set, Store.put] at h
    split at h <;> simp_all
  | cons x rest ih =>
    obtain ⟨j, w⟩ := x
    simp only [Store.set, Store.put] at h
    split at h
    · split at h
      · exact .inl h
      · rcases List.mem_cons.1 h with rfl | h
        · exact .inr rfl
        · exact .inl h
    · split at h
      · split at h
        · exact .inl (List.mem_cons_of_mem _ h)
        · rcases List.mem_cons.1 h with rfl | h
          · exact .inr rfl
          · exact .inl (List.mem_cons_of_mem _ h)
      · rcases List.mem_cons.1 h with h | h
        · exact .inl (by simp [h])
        · rcases ih h with h | h
          · exact .inl (by simp [h])
          · exact .inr h

/-- `set` keeps the canonical form. -/
theorem Store.wf_set {d v : α} {k : Nat} {m : Store α} (h : Store.wf d m = true) :
    Store.wf d (Store.set d k v m) = true := by
  induction m with
  | nil =>
    simp only [Store.set, Store.put]
    split
    · rfl
    · rename_i hv
      simp [Store.wf, hv]
  | cons x rest ih =>
    obtain ⟨j, w⟩ := x
    obtain ⟨hw, hlt, hr⟩ := Store.wf_cons.1 h
    simp only [Store.set, Store.put]
    split
    · rename_i hk
      split
      · exact h
      · rename_i hv
        refine Store.wf_cons.2 ⟨hv, ?_, h⟩
        intro e he
        rcases List.mem_cons.1 he with rfl | he
        · exact hk
        · exact Nat.lt_trans hk (hlt e he)
    · split
      · rename_i hk
        subst hk
        split
        · exact hr
        · rename_i hv
          exact Store.wf_cons.2 ⟨hv, hlt, hr⟩
      · rename_i h1 h2
        refine Store.wf_cons.2 ⟨hw, ?_, ih hr⟩
        intro e he
        rcases Store.mem_set he with he | he
        · exact hlt e he
        · omega

/-! ## Read after write -/

/-- A canonical store reads back what was set. -/
theorem Store.get_set_same {d v : α} {k : Nat} {m : Store α} (h : Store.wf d m = true) :
    Store.get d k (Store.set d k v m) = v := by
  induction m with
  | nil =>
    simp only [Store.set, Store.put]
    split
    · rename_i hv
      simp [Store.get, hv]
    · simp [Store.get]
  | cons x rest ih =>
    obtain ⟨j, w⟩ := x
    obtain ⟨hw, hlt, hr⟩ := Store.wf_cons.1 h
    simp only [Store.set, Store.put]
    split
    · rename_i hk
      split
      · rename_i hv
        rw [hv]
        refine Store.get_eq_default fun e he => ?_
        rcases List.mem_cons.1 he with rfl | he
        · exact hk
        · exact Nat.lt_trans hk (hlt e he)
      · simp [Store.get]
    · split
      · rename_i hk
        subst hk
        split
        · rename_i hv
          rw [hv]
          exact Store.get_eq_default hlt
        · simp [Store.get]
      · rename_i h1 h2
        simp only [Store.get, h2, if_false]
        exact ih hr

/-- `set` leaves every other key alone. -/
theorem Store.get_set_other {d v : α} {k j : Nat} {m : Store α} (hj : j ≠ k) :
    Store.get d j (Store.set d k v m) = Store.get d j m := by
  induction m with
  | nil =>
    simp only [Store.set, Store.put]
    split <;> simp [Store.get, hj]
  | cons x rest ih =>
    obtain ⟨i, w⟩ := x
    simp only [Store.set, Store.put]
    split
    · split <;> simp [Store.get, hj]
    · split
      · rename_i hk
        subst hk
        split <;> simp [Store.get, hj]
      · simp only [Store.get]
        split
        · rfl
        · exact ih

/-! ## Memory -/

/-- Every write keeps the canonical form. -/
theorem Memory.wf_write {m : Memory} (pa : Nat) (b : Byte) (h : m.wf = true) : (m.write pa b).wf = true :=
  Store.wf_set h

/-- A canonical memory reads back the byte written. -/
theorem Memory.read_write_same {m : Memory} (pa : Nat) (b : Byte) (h : m.wf = true) : (m.write pa b).read pa = b :=
  Store.get_set_same h

/-- A write leaves every other byte alone. -/
theorem Memory.read_write_other {m : Memory} {pa qa : Nat} (b : Byte) (h : qa ≠ pa) :
    (m.write pa b).read qa = m.read qa := Store.get_set_other h

/-- Writing a list of bytes keeps the canonical form. -/
theorem Memory.wf_writeAll {m : Memory} (pas : List Nat) (bs : List Byte) (h : m.wf = true) :
    (m.writeAll pas bs).wf = true := by
  induction pas generalizing m bs with
  | nil => exact h
  | cons pa pas ih =>
    cases bs with
    | nil => exact h
    | cons b bs => exact ih bs (Memory.wf_write pa b h)

/-- Writing a list of bytes leaves every address outside the list alone. -/
theorem Memory.read_writeAll_other {m : Memory} {pas : List Nat} {bs : List Byte} {qa : Nat} (h : qa ∉ pas) :
    (m.writeAll pas bs).read qa = m.read qa := by
  induction pas generalizing m bs with
  | nil => rfl
  | cons pa pas ih =>
    cases bs with
    | nil => rfl
    | cons b bs =>
      rw [Memory.writeAll, ih (fun hm => h (List.mem_cons_of_mem _ hm)),
        Memory.read_write_other b (fun e => h (by simp [e]))]

/-- A canonical memory reads back the bytes written at distinct addresses. -/
theorem Memory.map_read_writeAll {m : Memory} {pas : List Nat} {bs : List Byte} (h : m.wf = true)
    (hn : pas.Nodup) (hl : pas.length = bs.length) : pas.map (m.writeAll pas bs).read = bs := by
  induction pas generalizing m bs with
  | nil =>
    cases bs with
    | nil => rfl
    | cons b bs => simp at hl
  | cons pa pas ih =>
    cases bs with
    | nil => simp at hl
    | cons b bs =>
      obtain ⟨hnot, hn⟩ := List.nodup_cons.1 hn
      simp only [Memory.writeAll, List.map_cons]
      rw [ih (Memory.wf_write pa b h) hn (by simpa using hl), Memory.read_writeAll_other hnot,
        Memory.read_write_same pa b h]

end Sys2Proof.Machine
end

