-- ==== Sys2Proof/Laws/Ops.lean ====
section
/-! SUPPORT. What each shared operation can do, said once: stopping and settling, byte strings, elements of vectors, the
address pipeline, stores, remote atomic updates. -/

namespace Sys2Proof.Machine

/-! ## Stopping and settling -/

/-- A check passes exactly when its condition holds. -/
@[simp] theorem need_eq_ok {c : Bool} {x : Stop} {u : Unit} : need c x = .ok u ↔ c = true := by
  cases c <;> simp [need]

/-- A check fails with its stop exactly when its condition does not hold. -/
@[simp] theorem need_eq_error {c : Bool} {x y : Stop} : need c x = .error y ↔ c = false ∧ x = y := by
  cases c <;> simp [need]

/-- A passed check disappears. -/
@[simp] theorem need_true (x : Stop) : need true x = .ok () := rfl

/-- A failed check stops. -/
@[simp] theorem need_false (x : Stop) : need false x = .error x := rfl

/-- A sequence goes on exactly when its first part does. -/
theorem bind_eq_ok {α β : Type} {r : Except Stop α} {f : α → Except Stop β} {b : β} :
    (r >>= f) = .ok b ↔ ∃ a, r = .ok a ∧ f a = .ok b := by
  cases r <;> simp [bind, Except.bind]

/-- A sequence stops in its first part or after it. -/
theorem bind_eq_error {α β : Type} {r : Except Stop α} {f : α → Except Stop β} {x : Stop} :
    (r >>= f) = .error x ↔ r = .error x ∨ ∃ a, r = .ok a ∧ f a = .error x := by
  cases r <;> simp [bind, Except.bind]

/-- Raising is never a next state. -/
theorem raise_ne_next (x : Stop) (s t : State) : raise x s ≠ .next t := by
  cases x <;> simp [raise]

/-- An exception is raised at RIP, in the state given but for CR2. -/
theorem raise_exception {x : Stop} {s t : State} {e : Exc} {code : DWord} {rip : QWord}
    (h : raise x s = .fault (.exception e code rip t)) : rip = s.rip ∧ { t with cr2 := s.cr2 } = s := by
  cases x <;> simp [raise] at h
  · obtain ⟨rfl, rfl, rfl, rfl⟩ := h; exact ⟨rfl, rfl⟩
  · obtain ⟨rfl, rfl, rfl, rfl⟩ := h; exact ⟨rfl, rfl⟩

/-- An instruction completes exactly when its checks and effect do, and then its state is retired. -/
theorem settle_eq_next {s t : State} {r : Except Stop State} :
    settle s r = .next t ↔ ∃ u, r = .ok u ∧ t = u.retire := by
  cases r with
  | ok u => simp [settle, eq_comm]
  | error x => simp [settle, raise_ne_next]

/-- An instruction that raises an exception leaves the state as it was, but for CR2. -/
theorem settle_exception {s t : State} {r : Except Stop State} {e : Exc} {code : DWord} {rip : QWord}
    (h : settle s r = .fault (.exception e code rip t)) : rip = s.rip ∧ { t with cr2 := s.cr2 } = s := by
  cases r with
  | ok u => simp [settle] at h
  | error x => exact raise_exception h

/-! ## Byte strings -/

/-- A byte string has its length. -/
@[simp] theorem leBytes_length (n v : Nat) : (leBytes n v).length = n := by
  induction n generalizing v with
  | zero => rfl
  | succ n ih => simp [leBytes, ih]

/-- The number of a byte string is the number it was made from, as far as the bytes reach. -/
theorem leNat_leBytes (n v : Nat) : leNat (leBytes n v) = v % 256 ^ n := by
  induction n generalizing v with
  | zero => simp [leBytes, leNat, Nat.mod_one]
  | succ n ih =>
    rw [leBytes, leNat, ih, BitVec.toNat_ofNat]
    have h := Nat.mod_mul (x := v) (a := 256) (b := 256 ^ n)
    have h2 : 256 ^ (n + 1) = 256 * 256 ^ n := Nat.pow_succ'
    rw [h2, h]

/-- The number of a byte string is below the next power. -/
theorem leNat_lt (bs : List Byte) : leNat bs < 256 ^ bs.length := by
  induction bs with
  | nil => simp [leNat]
  | cons b rest ih =>
    have := b.isLt
    rw [leNat, List.length_cons, pow_succ]
    omega

/-- A byte string is the bytes of its number. -/
theorem leBytes_leNat (bs : List Byte) : leBytes bs.length (leNat bs) = bs := by
  induction bs with
  | nil => rfl
  | cons b rest ih =>
    have hb := b.isLt
    have h1 : (b.toNat + 256 * leNat rest) / 256 = leNat rest := by omega
    rw [List.length_cons, leBytes, leNat, h1, ih]
    congr 1
    apply BitVec.eq_of_toNat_eq
    rw [BitVec.toNat_ofNat]
    omega

/-! ## Elements of vectors -/

/-- The packed number stays below the next power. -/
theorem packNat_lt {w : Nat} (f : Nat → BitVec w) (n : Nat) : packNat f n < 2 ^ (w * n) := by
  induction n with
  | zero => simp [packNat]
  | succ n ih =>
    have h := (f n).isLt
    rw [packNat, Nat.mul_succ, pow_add]
    calc packNat f n + (f n).toNat * 2 ^ (w * n)
        < 2 ^ (w * n) + (f n).toNat * 2 ^ (w * n) := by omega
      _ = ((f n).toNat + 1) * 2 ^ (w * n) := by ring
      _ ≤ 2 ^ w * 2 ^ (w * n) := Nat.mul_le_mul_right _ h
      _ = 2 ^ (w * n) * 2 ^ w := Nat.mul_comm _ _

/-- Element `i` of a packed number is `f i`. -/
theorem packNat_div_mod {w : Nat} (f : Nat → BitVec w) {n i : Nat} (h : i < n) :
    packNat f n / 2 ^ (w * i) % 2 ^ w = (f i).toNat := by
  induction n with
  | zero => omega
  | succ n ih =>
    rw [packNat]
    rcases Nat.lt_succ_iff_lt_or_eq.1 h with h | rfl
    · have e : w * n = w * i + w * (n - i) := by rw [← Nat.mul_add]; congr 1; omega
      have e2 : w * (n - i) = w * (n - i - 1) + w := by rw [← Nat.mul_succ]; congr 1; omega
      rw [e, pow_add, ← Nat.mul_assoc, Nat.mul_right_comm, Nat.add_mul_div_right _ _ (by positivity), e2, pow_add,
        ← Nat.mul_assoc, Nat.add_mul_mod_self_right]
      exact ih h
    · rw [Nat.add_mul_div_right _ _ (by positivity), Nat.div_eq_of_lt (packNat_lt f i), Nat.zero_add,
        Nat.mod_eq_of_lt (f i).isLt]

/-- Element `i` of a packed vector is `f i`. -/
theorem elem_pack {w n i : Nat} (f : Nat → BitVec w) (hi : i < n) (hw : w * n ≤ 512) : elem w (pack n f) i = f i := by
  apply BitVec.eq_of_toNat_eq
  have h1 : packNat f n < 2 ^ 512 := Nat.lt_of_lt_of_le (packNat_lt f n) (Nat.pow_le_pow_right (by decide) hw)
  rw [elem, BitVec.extractLsb'_toNat, pack, BitVec.toNat_ofNat, Nat.mod_eq_of_lt h1, Nat.shiftRight_eq_div_pow]
  exact packNat_div_mod f hi

/-- Bits of a packed vector above its elements are 0. -/
theorem pack_high {w n : Nat} (f : Nat → BitVec w) {j : Nat} (hj : w * n ≤ j) : (pack n f).getLsbD j = false := by
  rw [pack, BitVec.getLsbD_ofNat, Nat.testBit_lt_two_pow (Nat.lt_of_lt_of_le (packNat_lt f n)
    (Nat.pow_le_pow_right (by decide) hj))]
  simp

/-! ## The address pipeline -/

/-- As many physical addresses as bytes. -/
theorem translateAll_length {s : State} {kind : AccessKind} {user : Bool} {la : QWord} {n : Nat} {pas : List Nat}
    (h : translateAll s kind user la n = .ok pas) : pas.length = n := by
  induction n generalizing la pas with
  | zero => simp [translateAll] at h; simp [← h]
  | succ n ih =>
    simp only [translateAll, bind_eq_ok] at h
    obtain ⟨pa, -, rest, h2, h3⟩ := h
    simp only [pure, Except.pure, Except.ok.injEq] at h3
    simp [← h3, ih h2]

/-- What an access that succeeds has checked. -/
theorem access_eq_ok {s : State} {p : Pointer} {n : Nat} {kind : AccessKind} {implicit : Bool} {align : Nat}
    {misaligned : Stop} {pas : List Nat} :
    access s p n kind implicit align misaligned = .ok pas ↔
      ∃ la, linearOf s p n = .ok la ∧ lassData s implicit la = true ∧ la.toNat % align = 0 ∧
        translateAll s kind (s.userAccess implicit) la n = .ok pas := by
  simp only [access, bind_eq_ok, need_eq_ok, beq_iff_eq]
  constructor
  · rintro ⟨la, h1, -, h2, -, h3, h4⟩; exact ⟨la, h1, h2, h3, h4⟩
  · rintro ⟨la, h1, h2, h3, h4⟩; exact ⟨la, h1, (), h2, (), h3, h4⟩

/-- An access that succeeds names as many physical addresses as bytes. -/
theorem access_length {s : State} {p : Pointer} {n : Nat} {kind : AccessKind} {implicit : Bool} {align : Nat}
    {misaligned : Stop} {pas : List Nat} (h : access s p n kind implicit align misaligned = .ok pas) :
    pas.length = n := by
  obtain ⟨la, -, -, -, h⟩ := access_eq_ok.1 h
  exact translateAll_length h

/-- A translated byte keeps its place in the page. -/
theorem translate_offset {s : State} {kind : AccessKind} {user : Bool} {la : QWord} {pa : Nat}
    (h : translate s kind user la = .ok pa) : pa % 4096 = la.toNat % 4096 := by
  have found : ∀ page : Nat, (if page * 4096 + la.toNat % 4096 < 2 ^ maxPhyAddr s then
      (Except.ok (page * 4096 + la.toNat % 4096) : Except Stop Nat)
      else .error (.noPhysical (page * 4096 + la.toNat % 4096))) = .ok pa → pa % 4096 = la.toNat % 4096 := by
    intro page hp
    split at hp
    · simp only [Except.ok.injEq] at hp
      omega
    · simp at hp
  simp only [translate] at h
  split at h
  · exact found _ h
  · simp at h
  · split at h
    · simp at h
    · exact found _ h

/-- The addresses of a byte after a linear address: its place in the page is one further. -/
theorem laNext_offset (s : State) (la : QWord) : (s.laNext la).toNat % 4096 = (la.toNat + 1) % 4096 := by
  unfold State.laNext
  split
  · rw [BitVec.toNat_add]; simp
  · simp [BitVec.toNat_setWidth, BitVec.toNat_add]

/-- The places in the page of consecutive bytes. -/
theorem translateAll_offset {s : State} {kind : AccessKind} {user : Bool} {la : QWord} {n : Nat} {pas : List Nat}
    (h : translateAll s kind user la n = .ok pas) {i : Nat} (hi : i < pas.length) :
    pas[i] % 4096 = (la.toNat + i) % 4096 := by
  induction n generalizing la pas i with
  | zero => simp [translateAll] at h; subst h; simp at hi
  | succ n ih =>
    simp only [translateAll, bind_eq_ok] at h
    obtain ⟨pa, h1, rest, h2, h3⟩ := h
    simp only [pure, Except.pure, Except.ok.injEq] at h3
    subst h3
    cases i with
    | zero => simpa using translate_offset h1
    | succ i =>
      have := ih h2 (i := i) (by simpa using hi)
      have l := laNext_offset s la
      simp only [List.getElem_cons_succ]
      omega

/-- Up to 4096 bytes of one access have distinct physical addresses. -/
theorem translateAll_nodup {s : State} {kind : AccessKind} {user : Bool} {la : QWord} {n : Nat} {pas : List Nat}
    (h : translateAll s kind user la n = .ok pas) (hn : n ≤ 4096) : pas.Nodup := by
  have hl := translateAll_length h
  rw [List.nodup_iff_injective_getElem]
  intro ⟨i, hi⟩ ⟨j, hj⟩ e
  have hi' := translateAll_offset h hi
  have hj' := translateAll_offset h hj
  simp only at e
  ext
  simp only
  omega

/-- Up to 4096 bytes of one access have distinct physical addresses. -/
theorem access_nodup {s : State} {p : Pointer} {n : Nat} {kind : AccessKind} {implicit : Bool} {align : Nat}
    {misaligned : Stop} {pas : List Nat} (h : access s p n kind implicit align misaligned = .ok pas) (hn : n ≤ 4096) :
    pas.Nodup := by
  obtain ⟨la, -, -, -, h⟩ := access_eq_ok.1 h
  exact translateAll_nodup h hn

/-! ## Stores and remote atomic updates -/

/-- The bytes just stored at distinct addresses read back. -/
theorem bytesAt_storeBytes {s : State} {pas : List Nat} {bs : List Byte} (h : s.mem.wf = true) (hn : pas.Nodup)
    (hl : pas.length = bs.length) : (s.storeBytes pas bs).bytesAt pas = bs := Memory.map_read_writeAll h hn hl

/-- A store leaves every address outside it alone. -/
theorem read_storeBytes_other {s : State} {pas : List Nat} {bs : List Byte} {pa : Nat} (h : pa ∉ pas) :
    (s.storeBytes pas bs).mem.read pa = s.mem.read pa := Memory.read_writeAll_other h

/-- A store keeps the canonical form of memory. -/
theorem wf_storeBytes {s : State} (pas : List Nat) (bs : List Byte) (h : s.mem.wf = true) :
    (s.storeBytes pas bs).mem.wf = true := Memory.wf_writeAll pas bs h

/-- The addresses of a range. -/
theorem mem_paRange {pa n qa : Nat} : qa ∈ paRange pa n ↔ pa ≤ qa ∧ qa < pa + n := by
  induction n generalizing pa with
  | zero => simp [paRange]
  | succ n ih => simp only [paRange, List.mem_cons, ih]; omega

/-- A range lists each address once. -/
theorem paRange_nodup (pa n : Nat) : (paRange pa n).Nodup := by
  induction n generalizing pa with
  | zero => simp [paRange]
  | succ n ih =>
    rw [paRange, List.nodup_cons]
    exact ⟨fun h => by have := mem_paRange.1 h; omega, ih _⟩

/-- A range has its length. -/
@[simp] theorem paRange_length (pa n : Nat) : (paRange pa n).length = n := by
  induction n generalizing pa with
  | zero => rfl
  | succ n ih => simp [paRange, ih]

/-- Performing an update touches only memory and the monitor. -/
theorem raoPerform_frame (s : State) (u : RaoUpdate) :
    raoPerform s u = { s with mem := (raoPerform s u).mem, monitor := (raoPerform s u).monitor } := rfl

/-- Performing an update keeps the canonical form of memory. -/
theorem wf_raoPerform {s : State} (u : RaoUpdate) (h : s.mem.wf = true) : (raoPerform s u).mem.wf = true :=
  wf_storeBytes _ _ h

/-- Performing updates touches only memory and the monitor, and keeps the canonical form. -/
theorem foldl_raoPerform (l : List RaoUpdate) (s : State) :
    l.foldl raoPerform s = { s with mem := (l.foldl raoPerform s).mem, monitor := (l.foldl raoPerform s).monitor } ∧
      (s.mem.wf = true → (l.foldl raoPerform s).mem.wf = true) := by
  induction l generalizing s with
  | nil => exact ⟨rfl, id⟩
  | cons u l ih =>
    obtain ⟨h1, h2⟩ := ih (raoPerform s u)
    refine ⟨?_, fun h => h2 (wf_raoPerform u h)⟩
    rw [List.foldl_cons, h1]
    rfl

/-- Performing every queued update touches only memory, the monitor and the queue. -/
theorem raoDrain_frame (s : State) :
    raoDrain s = { s with mem := (raoDrain s).mem, monitor := (raoDrain s).monitor, rao := [] } := by
  simp only [raoDrain]
  rw [(foldl_raoPerform s.rao s).1]

/-- Performing every queued update keeps the canonical form of memory. -/
theorem wf_raoDrain {s : State} (h : s.mem.wf = true) : (raoDrain s).mem.wf = true :=
  (foldl_raoPerform s.rao s).2 h

/-! ## Instructions of one shape -/

/-- A vector instruction whose enables are on and whose source is readable completes: only its destination register
changes. -/
theorem vexOp_completes {s : State} {fs : List Feature} {d : RegNum} {o : RM} {n : Nat} {f : Vec → Vec} {v : Vec}
    (hc : vexCheck s fs = .ok ()) (hv : rmSource s o n = .ok v) :
    vexOp s fs d o n f = .next (s.setVreg d (f v)).retire := by
  simp [vexOp, hc, hv, settle, bind, Except.bind, pure, Except.pure]

end Sys2Proof.Machine
end

