-- ==== Sys2Proof/Laws/Boundary.lean ====
section
/-! SUPPORT. What a write of an MSR and the events at a boundary can do, said once. -/

namespace Sys2Proof.Machine

/-! ## MSRs -/

/-- Replacing an MSR's value touches only the components that MSRs stand for. -/
theorem msrPut_frame (s : State) (a : Nat) (v : QWord) :
    msrPut s a v = { s with
      msrs := (msrPut s a v).msrs, tsc := (msrPut s a v).tsc, userTimer := (msrPut s a v).userTimer
      guestTimer := (msrPut s a v).guestTimer, fixedCtr0 := (msrPut s a v).fixedCtr0 } := by
  unfold msrPut State.setUserTimer
  simp only
  split_ifs <;> rfl

/-- A write of an MSR that is not serializing only replaces its value. -/
theorem msrWrite_plain {s : State} {a : Nat} (v : QWord) (h : msrSerializing s a = false) :
    msrWrite s a v = msrPut s a v := by simp [msrWrite, h]

/-- What CPUID answers depends on the platform, CR4, XCR0 and the monitor enable alone. -/
theorem cpuidQuery_congr {s t : State} (hp : t.platform = s.platform) (h4 : t.cr4 = s.cr4) (hx : t.xcr0 = s.xcr0)
    (hm : monitorEnabled t = monitorEnabled s) (leaf sub : DWord) : cpuidQuery t leaf sub = cpuidQuery s leaf sub := by
  simp only [cpuidQuery, xsaveSize, xsaveEnd, hp, h4, hx, hm]

/-- Performing the queued updates changes no answer of CPUID. -/
theorem cpuidQuery_raoDrain (s : State) (leaf sub : DWord) : cpuidQuery (raoDrain s) leaf sub = cpuidQuery s leaf sub := by
  rw [raoDrain_frame]; rfl

/-- Performing the queued updates gives no MSR another address. -/
theorem canonMsr_raoDrain (s : State) (a : Nat) : canonMsr (raoDrain s) a = canonMsr s a := by
  rw [raoDrain_frame]; rfl

/-- Performing the queued updates changes no MSR. -/
theorem msrStored_raoDrain (s : State) (a : Nat) : msrStored (raoDrain s) a = msrStored s a := by
  rw [raoDrain_frame]; rfl

/-- Replacing the value of an MSR leaves the value of every other one alone. -/
theorem msrStored_msrPut_other {s : State} {a c : Nat} (v : QWord) (h : c ≠ canonMsr s a) :
    msrStored (msrPut s a v) c = msrStored s c := by
  unfold msrPut
  simp only
  generalize canonMsr s a = k at *
  split_ifs with h1 h2 h3 h4
  · subst h1; simp only [msrStored, if_neg h]; rfl
  · subst h2; simp only [msrStored, if_neg h]; rfl
  · subst h3; simp only [msrStored, if_neg h]; rfl
  · obtain ⟨rfl, -⟩ := h4; simp only [msrStored, h, false_and, if_false]; rfl
  · simp only [msrStored, Store.get_set_other h]; rfl

/-! ## Trace triggers and debug registers -/

/-- Trigger units touch only MSRs. -/
theorem fireTriggers_frame (s : State) (is : List TriggerInput) :
    fireTriggers s is = { s with msrs := (fireTriggers s is).msrs } := by
  unfold fireTriggers
  simp only
  split <;> rfl

/-- Of the MSRs, trigger units touch only IA32_RTIT_STATUS. -/
theorem fireTriggers_get {s : State} {is : List TriggerInput} {a : Nat} (h : a ≠ 0x571) :
    Store.get 0 a (fireTriggers s is).msrs = Store.get 0 a s.msrs := by
  unfold fireTriggers
  simp only
  split
  · rfl
  · exact Store.get_set_other h

/-- Units that no input reaches do nothing. -/
@[simp] theorem fireTriggers_nil (s : State) : fireTriggers s [] = s := by
  have h : firedUnits s [] = [] := by simp [firedUnits, triggerFires]
  simp only [fireTriggers, h, List.any_nil, if_true]

/-- Matches go on exactly when all are trigger inputs. -/
theorem onMatches_eq_ok {s t : State} {xs : List (Fin 4)} :
    onMatches xs s = .ok t ↔
      (∀ x ∈ xs, logEnabled s (.debugMatch x) = true) ∧ t = fireTriggers s (xs.map fun x => .debugMatch x) := by
  unfold onMatches deliver
  simp only
  split
  next h => exact ⟨fun e => (by cases e; exact ⟨List.all_eq_true.mp h, rfl⟩), fun e => (by rw [e.2])⟩
  next h => exact ⟨fun e => (by cases e), fun e => absurd (List.all_eq_true.mpr e.1) h⟩

/-- Matches stop exactly when one is no trigger input: with #DB, after the trigger inputs among them have acted. -/
theorem onMatches_eq_error {s : State} {xs : List (Fin 4)} {f : Fault} :
    onMatches xs s = .error f ↔
      (∃ x ∈ xs, logEnabled s (.debugMatch x) = false) ∧
        f = .delivered (.exception .db) (fireTriggers s (xs.map fun x => .debugMatch x)).wakeUp.markResume := by
  unfold onMatches deliver
  simp only
  split
  next h =>
    simp only [List.all_eq_true] at h
    exact ⟨fun e => (by cases e), fun e => by obtain ⟨⟨x, hx, hl⟩, -⟩ := e; simp [h x hx] at hl⟩
  next h =>
    have h' : ∃ x ∈ xs, logEnabled s (.debugMatch x) = false := by simpa using h
    exact ⟨fun e => (by cases e; exact ⟨h', rfl⟩), fun e => (by rw [e.2])⟩

/-- Without a match nothing happens. -/
@[simp] theorem onMatches_nil (s : State) : onMatches [] s = .ok s := by simp [onMatches]

/-- After an instruction that matched no data breakpoint, none is taken. -/
theorem dataBreaks_nil {s : State} (h : s.matched = []) : dataBreaks s = .ok s := by
  have e : { s with matched := [] } = s := by rw [← h]
  rw [dataBreaks, h, e, onMatches_nil]

/-- Data breakpoints touch only MSRs, and are then taken. -/
theorem dataBreaks_eq_ok {s t : State} (h : dataBreaks s = .ok t) :
    t = { s with matched := [], msrs := t.msrs } := by
  obtain ⟨-, rfl⟩ := onMatches_eq_ok.mp h
  rw [fireTriggers_frame]

/-! ## Key tables -/

/-- An entry that another processor programs is that of a KeyID PCONFIG accepts for the TME-MK table. -/
theorem tmeProgramLegal_keyId {s : State} {k : Nat} {e : KeyEntry 512} (h : tmeProgramLegal s k e = true) :
    k ≠ 0 ∧ k ≤ tmeMaxKey s := by
  simp only [tmeProgramLegal, Bool.and_eq_true, decide_eq_true_eq] at h
  exact h.1

/-- An entry that another processor programs is that of a KeyID PCONFIG accepts for the TSE table. -/
theorem tseProgramLegal_keyId {s : State} {k : Nat} {e : KeyEntry 256} (h : tseProgramLegal s k e = true) :
    k ≠ 0 ∧ k < tseMaxKeys s := by
  simp only [tseProgramLegal, Bool.and_eq_true, decide_eq_true_eq] at h
  exact h.1

/-! ## What an instruction matched -/

/-- Noting the matches of an instruction keeps its outcome, but for that field of a next state. -/
theorem noteMatches_eq_next {i : Instr} {s t : State} {o : Host.Outcome State Fault Refusal} :
    noteMatches i s o = .next t ↔ ∃ u, o = .next u ∧ t = { u with matched := dataMatches s u i } := by
  cases o <;> simp [noteMatches, eq_comm]

/-- Some data breakpoint matches one of the accesses. -/
theorem anyMatch_eq_true {s : State} {as : List DataAccess} :
    anyMatch s as = true ↔ ∃ a ∈ as, ∃ x, breakMatches s x a = true := by
  simp [anyMatch, List.any_eq_true]

/-- An instruction matches a breakpoint exactly when one of its accesses does. -/
theorem mem_dataMatches {s t : State} {i : Instr} {x : Fin 4} :
    x ∈ dataMatches s t i ↔ ∃ a ∈ dataAccesses s t i, breakMatches s x a = true := by
  simp [dataMatches, List.any_eq_true]

/-- Another processor's write of a shared throttle MSR touches only the components that MSRs stand for. -/
theorem onThrottle_frame {n : Fin 2} {v : QWord} {s t : State} (h : onThrottle n v s = .ok t) :
    t = { s with
      msrs := t.msrs, tsc := t.tsc, userTimer := t.userTimer, guestTimer := t.guestTimer, fixedCtr0 := t.fixedCtr0 } := by
  unfold onThrottle at h
  cases h
  split
  · exact msrPut_frame _ _ _
  · rfl

/-- Every access of an instruction has at least one byte. -/
theorem dataAccesses_pos (s t : State) (i : Instr) : ∀ a ∈ dataAccesses s t i, 0 < a.size := by
  have hp : ∀ (p : Pointer) (n : Nat) (w : Bool), 0 < n → ∀ a ∈ pointerAccess s p n w, 0 < a.size := by
    intro p n w hn a ha
    unfold pointerAccess at ha
    split at ha <;> simp_all
  have hm : ∀ (m : MemOp) (n : Nat) (w : Bool), 0 < n → ∀ a ∈ memAccess s m n w, 0 < a.size :=
    fun m => hp (memPointer s m)
  have hr : ∀ (o : RM) (n : Nat), 0 < n → ∀ a ∈ rmAccess s o n, 0 < a.size := by
    intro o n hn a ha
    cases o with
    | reg r => simp [rmAccess] at ha
    | mem m => exact hm m n false hn a ha
  have hl : ∀ w, ∀ a ∈ listAccesses s t w, 0 < a.size := by
    intro w a ha
    simp only [listAccesses, entryAccesses, List.mem_flatMap, List.mem_append] at ha
    obtain ⟨k, -, h | h⟩ := ha <;> exact hp _ _ _ (by decide) a h
  have hu : ∀ a ∈ uiretAccesses s, 0 < a.size := by
    intro a ha
    simp only [uiretAccesses, List.mem_flatMap] at ha
    obtain ⟨k, -, h⟩ := ha
    exact hp _ _ _ (by decide) a h
  have hc : ∀ a ∈ pconfigAccesses s, 0 < a.size := by
    intro a ha
    unfold pconfigAccesses at ha
    split at ha <;> exact hp _ _ _ (by decide) a ha
  have hb : ∀ a ∈ pbndkbAccesses s t, 0 < a.size := by
    intro a ha
    simp only [pbndkbAccesses, List.mem_append] at ha
    obtain h | h := ha
    · exact hp _ _ _ (by decide) a h
    · split at h
      · simp at h
      · exact hp _ _ _ (by decide) a h
  have hi : ∀ w n, ∀ a ∈ bitmapAccess s w n, 0 < a.size := by
    intro w n a ha
    simp only [bitmapAccess, List.mem_singleton] at ha
    subst ha
    exact Nat.one_pos
  intro a
  cases i <;> simp only [dataAccesses] <;>
    first
    | exact hm _ _ _ (by decide) a
    | exact hr _ _ (by decide) a
    | exact fun h => absurd h List.not_mem_nil
    | exact hl _ a
    | exact hu a
    | exact hc a
    | exact hb a
    | exact hi _ _ a

/-- With every breakpoint off, an instruction matches none. -/
theorem dataMatches_of_disabled {s : State} (t : State) (i : Instr) (h : ∀ x, breakEnabled s x = false) :
    dataMatches s t i = [] := by
  simp [dataMatches, breakMatches, h]

/-! ## Delivery -/

/-- A user interrupt is recognized exactly under its four conditions, and it is the highest request. -/
theorem recognizeUser_eq_error {s : State} {f : Fault} :
    recognizeUser s = .error f ↔
      (s.uirr ≠ 0 ∧ s.uif = true ∧ s.cpl = 3 ∧ s.uintrEnabled = true) ∧
        f = .delivered (.userInterrupt (highestRequest s.uirr)) s.wakeUp.markResume := by
  unfold recognizeUser deliver
  split
  next h => exact ⟨fun e => (by cases e; exact ⟨h, rfl⟩), fun e => (by rw [e.2])⟩
  next h => exact ⟨fun e => (by cases e), fun e => absurd e.1 h⟩

/-- When no user interrupt is recognized, nothing changes. -/
theorem recognizeUser_eq_ok {s t : State} (h : recognizeUser s = .ok t) : t = s := by
  unfold recognizeUser deliver at h
  split at h
  · cases h
  · cases h; rfl

end Sys2Proof.Machine
end

