-- ==== Sys2Proof/Laws/PerInstr.lean ====
section
/-! SUPPORT. The family EncodeShape: every encoding is between 2 and 15 bytes long (30_encoding R130), one lemma per
constructor. -/

namespace Sys2Proof.Laws.EncodeShape

open Sys2Proof

/-- The encoding of `i` fits an instruction. -/
def Statement (i : Instr) : Prop := 2 ≤ (encode i).length ∧ (encode i).length ≤ 15

/-- At most two bytes stand in front of a memory operand's instruction. -/
theorem memPfx_length (m : MemOp) : (memPfx m).length ≤ 2 := by
  obtain ⟨seg, addr32, ea⟩ := m
  cases seg <;> cases addr32 <;> simp [memPfx]

/-- ModRM, SIB and displacement take five or six bytes. -/
theorem tail_length (reg : BitVec 3) (e : EffAddr) : 5 ≤ (e.tail reg).length ∧ (e.tail reg).length ≤ 6 := by
  rcases e with d | ⟨b, i, s, d⟩
  · simp [EffAddr.tail, bytes32]
  · cases b <;> simp [EffAddr.tail, bytes32]

/-- A legacy instruction with a memory operand. -/
theorem legacyMem_length {mand ops : List Byte} (w : Bool) (reg : RegNum) (m : MemOp) (h1 : mand.length ≤ 1)
    (h2 : ops.length ≤ 3) :
    2 ≤ (encLegacyMem mand w ops reg m).length ∧ (encLegacyMem mand w ops reg m).length ≤ 15 := by
  have h3 := memPfx_length m
  have h4 := tail_length (regLo reg) m.ea
  simp only [encLegacyMem, List.length_append, List.length_cons]
  omega

/-- The bytes in front of a register-or-memory operand's instruction, and its ModRM and what follows. -/
theorem rm_length (reg : BitVec 3) (r : RM) :
    (rmPfx r).length ≤ 2 ∧ 1 ≤ (r.tail reg).length ∧ (r.tail reg).length ≤ 6 := by
  cases r with
  | reg r => simp [rmPfx, RM.tail]
  | mem m =>
    have h3 := memPfx_length m
    have h4 := tail_length reg m.ea
    simp only [rmPfx, RM.tail]
    omega

/-- A VEX instruction, followed by at most four immediate bytes where its operand is a register, one otherwise. -/
theorem vexRM_length (map : BitVec 5) (pp : BitVec 2) (w l : Bool) (op : Byte) (reg v : RegNum) (r : RM)
    (imm : List Byte) (h : imm.length ≤ 1) :
    2 ≤ (encVexRM map pp w l op reg v r ++ imm).length ∧ (encVexRM map pp w l op reg v r ++ imm).length ≤ 15 := by
  have h3 := rm_length (regLo reg) r
  simp only [encVexRM, vexHead, List.length_append, List.length_cons, List.length_nil]
  omega

/-- A VEX instruction without an immediate. -/
theorem vexRM_length' (map : BitVec 5) (pp : BitVec 2) (w l : Bool) (op : Byte) (reg v : RegNum) (r : RM) :
    2 ≤ (encVexRM map pp w l op reg v r).length ∧ (encVexRM map pp w l op reg v r).length ≤ 15 := by
  simpa using vexRM_length map pp w l op reg v r [] (by simp)

theorem cpuid : Statement (.cpuid) := by unfold Statement; decide
theorem aadd32 (dst : MemOp) (src : RegNum) : Statement (.aadd32 dst src) := legacyMem_length _ _ _ (by decide) (by decide)
theorem aadd64 (dst : MemOp) (src : RegNum) : Statement (.aadd64 dst src) := legacyMem_length _ _ _ (by decide) (by decide)
theorem aand32 (dst : MemOp) (src : RegNum) : Statement (.aand32 dst src) := legacyMem_length _ _ _ (by decide) (by decide)
theorem aand64 (dst : MemOp) (src : RegNum) : Statement (.aand64 dst src) := legacyMem_length _ _ _ (by decide) (by decide)
theorem aor32 (dst : MemOp) (src : RegNum) : Statement (.aor32 dst src) := legacyMem_length _ _ _ (by decide) (by decide)
theorem aor64 (dst : MemOp) (src : RegNum) : Statement (.aor64 dst src) := legacyMem_length _ _ _ (by decide) (by decide)
theorem axor32 (dst : MemOp) (src : RegNum) : Statement (.axor32 dst src) := legacyMem_length _ _ _ (by decide) (by decide)
theorem axor64 (dst : MemOp) (src : RegNum) : Statement (.axor64 dst src) := legacyMem_length _ _ _ (by decide) (by decide)
theorem cmpoxadd32 (m : MemOp) (a : RegNum) (b : RegNum) : Statement (.cmpoxadd32 m a b) := vexRM_length' _ _ _ _ _ _ _ _
theorem cmpoxadd64 (m : MemOp) (a : RegNum) (b : RegNum) : Statement (.cmpoxadd64 m a b) := vexRM_length' _ _ _ _ _ _ _ _
theorem cmpnoxadd32 (m : MemOp) (a : RegNum) (b : RegNum) : Statement (.cmpnoxadd32 m a b) := vexRM_length' _ _ _ _ _ _ _ _
theorem cmpnoxadd64 (m : MemOp) (a : RegNum) (b : RegNum) : Statement (.cmpnoxadd64 m a b) := vexRM_length' _ _ _ _ _ _ _ _
theorem cmpbxadd32 (m : MemOp) (a : RegNum) (b : RegNum) : Statement (.cmpbxadd32 m a b) := vexRM_length' _ _ _ _ _ _ _ _
theorem cmpbxadd64 (m : MemOp) (a : RegNum) (b : RegNum) : Statement (.cmpbxadd64 m a b) := vexRM_length' _ _ _ _ _ _ _ _
theorem cmpnbxadd32 (m : MemOp) (a : RegNum) (b : RegNum) : Statement (.cmpnbxadd32 m a b) := vexRM_length' _ _ _ _ _ _ _ _
theorem cmpnbxadd64 (m : MemOp) (a : RegNum) (b : RegNum) : Statement (.cmpnbxadd64 m a b) := vexRM_length' _ _ _ _ _ _ _ _
theorem cmpzxadd32 (m : MemOp) (a : RegNum) (b : RegNum) : Statement (.cmpzxadd32 m a b) := vexRM_length' _ _ _ _ _ _ _ _
theorem cmpzxadd64 (m : MemOp) (a : RegNum) (b : RegNum) : Statement (.cmpzxadd64 m a b) := vexRM_length' _ _ _ _ _ _ _ _
theorem cmpnzxadd32 (m : MemOp) (a : RegNum) (b : RegNum) : Statement (.cmpnzxadd32 m a b) := vexRM_length' _ _ _ _ _ _ _ _
theorem cmpnzxadd64 (m : MemOp) (a : RegNum) (b : RegNum) : Statement (.cmpnzxadd64 m a b) := vexRM_length' _ _ _ _ _ _ _ _
theorem cmpbexadd32 (m : MemOp) (a : RegNum) (b : RegNum) : Statement (.cmpbexadd32 m a b) := vexRM_length' _ _ _ _ _ _ _ _
theorem cmpbexadd64 (m : MemOp) (a : RegNum) (b : RegNum) : Statement (.cmpbexadd64 m a b) := vexRM_length' _ _ _ _ _ _ _ _
theorem cmpnbexadd32 (m : MemOp) (a : RegNum) (b : RegNum) : Statement (.cmpnbexadd32 m a b) := vexRM_length' _ _ _ _ _ _ _ _
theorem cmpnbexadd64 (m : MemOp) (a : RegNum) (b : RegNum) : Statement (.cmpnbexadd64 m a b) := vexRM_length' _ _ _ _ _ _ _ _
theorem cmpsxadd32 (m : MemOp) (a : RegNum) (b : RegNum) : Statement (.cmpsxadd32 m a b) := vexRM_length' _ _ _ _ _ _ _ _
theorem cmpsxadd64 (m : MemOp) (a : RegNum) (b : RegNum) : Statement (.cmpsxadd64 m a b) := vexRM_length' _ _ _ _ _ _ _ _
theorem cmpnsxadd32 (m : MemOp) (a : RegNum) (b : RegNum) : Statement (.cmpnsxadd32 m a b) := vexRM_length' _ _ _ _ _ _ _ _
theorem cmpnsxadd64 (m : MemOp) (a : RegNum) (b : RegNum) : Statement (.cmpnsxadd64 m a b) := vexRM_length' _ _ _ _ _ _ _ _
theorem cmppxadd32 (m : MemOp) (a : RegNum) (b : RegNum) : Statement (.cmppxadd32 m a b) := vexRM_length' _ _ _ _ _ _ _ _
theorem cmppxadd64 (m : MemOp) (a : RegNum) (b : RegNum) : Statement (.cmppxadd64 m a b) := vexRM_length' _ _ _ _ _ _ _ _
theorem cmpnpxadd32 (m : MemOp) (a : RegNum) (b : RegNum) : Statement (.cmpnpxadd32 m a b) := vexRM_length' _ _ _ _ _ _ _ _
theorem cmpnpxadd64 (m : MemOp) (a : RegNum) (b : RegNum) : Statement (.cmpnpxadd64 m a b) := vexRM_length' _ _ _ _ _ _ _ _
theorem cmplxadd32 (m : MemOp) (a : RegNum) (b : RegNum) : Statement (.cmplxadd32 m a b) := vexRM_length' _ _ _ _ _ _ _ _
theorem cmplxadd64 (m : MemOp) (a : RegNum) (b : RegNum) : Statement (.cmplxadd64 m a b) := vexRM_length' _ _ _ _ _ _ _ _
theorem cmpnlxadd32 (m : MemOp) (a : RegNum) (b : RegNum) : Statement (.cmpnlxadd32 m a b) := vexRM_length' _ _ _ _ _ _ _ _
theorem cmpnlxadd64 (m : MemOp) (a : RegNum) (b : RegNum) : Statement (.cmpnlxadd64 m a b) := vexRM_length' _ _ _ _ _ _ _ _
theorem cmplexadd32 (m : MemOp) (a : RegNum) (b : RegNum) : Statement (.cmplexadd32 m a b) := vexRM_length' _ _ _ _ _ _ _ _
theorem cmplexadd64 (m : MemOp) (a : RegNum) (b : RegNum) : Statement (.cmplexadd64 m a b) := vexRM_length' _ _ _ _ _ _ _ _
theorem cmpnlexadd32 (m : MemOp) (a : RegNum) (b : RegNum) : Statement (.cmpnlexadd32 m a b) := vexRM_length' _ _ _ _ _ _ _ _
theorem cmpnlexadd64 (m : MemOp) (a : RegNum) (b : RegNum) : Statement (.cmpnlexadd64 m a b) := vexRM_length' _ _ _ _ _ _ _ _
theorem pconfig : Statement (.pconfig) := by unfold Statement; decide
theorem wrmsrns : Statement (.wrmsrns) := by unfold Statement; decide
theorem rdmsrlist : Statement (.rdmsrlist) := by unfold Statement; decide
theorem wrmsrlist : Statement (.wrmsrlist) := by unfold Statement; decide
theorem pbndkb : Statement (.pbndkb) := by unfold Statement; decide
theorem mwait : Statement (.mwait) := by unfold Statement; decide
theorem uiret : Statement (.uiret) := by unfold Statement; decide
theorem urdmsrReg (dst : RegNum) (addr : RegNum) : Statement (.urdmsrReg dst addr) := by simp [Statement, encode, encLegacyRR]
theorem urdmsrImm (dst : RegNum) (imm : DWord) : Statement (.urdmsrImm dst imm) := by simp [Statement, encode, encVexRM, vexHead, rmPfx, RM.tail, bytes32]
theorem uwrmsrReg (addr : RegNum) (src : RegNum) : Statement (.uwrmsrReg addr src) := by simp [Statement, encode, encLegacyRR]
theorem uwrmsrImm (imm : DWord) (src : RegNum) : Statement (.uwrmsrImm imm src) := by simp [Statement, encode, encVexRM, vexHead, rmPfx, RM.tail, bytes32]
theorem vpdpbssd128 (d : RegNum) (a : RegNum) (b : RM) : Statement (.vpdpbssd128 d a b) := vexRM_length' _ _ _ _ _ _ _ _
theorem vpdpbssd256 (d : RegNum) (a : RegNum) (b : RM) : Statement (.vpdpbssd256 d a b) := vexRM_length' _ _ _ _ _ _ _ _
theorem vpdpbssds128 (d : RegNum) (a : RegNum) (b : RM) : Statement (.vpdpbssds128 d a b) := vexRM_length' _ _ _ _ _ _ _ _
theorem vpdpbssds256 (d : RegNum) (a : RegNum) (b : RM) : Statement (.vpdpbssds256 d a b) := vexRM_length' _ _ _ _ _ _ _ _
theorem vpdpbsud128 (d : RegNum) (a : RegNum) (b : RM) : Statement (.vpdpbsud128 d a b) := vexRM_length' _ _ _ _ _ _ _ _
theorem vpdpbsud256 (d : RegNum) (a : RegNum) (b : RM) : Statement (.vpdpbsud256 d a b) := vexRM_length' _ _ _ _ _ _ _ _
theorem vpdpbsuds128 (d : RegNum) (a : RegNum) (b : RM) : Statement (.vpdpbsuds128 d a b) := vexRM_length' _ _ _ _ _ _ _ _
theorem vpdpbsuds256 (d : RegNum) (a : RegNum) (b : RM) : Statement (.vpdpbsuds256 d a b) := vexRM_length' _ _ _ _ _ _ _ _
theorem vpdpbuud128 (d : RegNum) (a : RegNum) (b : RM) : Statement (.vpdpbuud128 d a b) := vexRM_length' _ _ _ _ _ _ _ _
theorem vpdpbuud256 (d : RegNum) (a : RegNum) (b : RM) : Statement (.vpdpbuud256 d a b) := vexRM_length' _ _ _ _ _ _ _ _
theorem vpdpbuuds128 (d : RegNum) (a : RegNum) (b : RM) : Statement (.vpdpbuuds128 d a b) := vexRM_length' _ _ _ _ _ _ _ _
theorem vpdpbuuds256 (d : RegNum) (a : RegNum) (b : RM) : Statement (.vpdpbuuds256 d a b) := vexRM_length' _ _ _ _ _ _ _ _
theorem vpdpwsud128 (d : RegNum) (a : RegNum) (b : RM) : Statement (.vpdpwsud128 d a b) := vexRM_length' _ _ _ _ _ _ _ _
theorem vpdpwsud256 (d : RegNum) (a : RegNum) (b : RM) : Statement (.vpdpwsud256 d a b) := vexRM_length' _ _ _ _ _ _ _ _
theorem vpdpwsuds128 (d : RegNum) (a : RegNum) (b : RM) : Statement (.vpdpwsuds128 d a b) := vexRM_length' _ _ _ _ _ _ _ _
theorem vpdpwsuds256 (d : RegNum) (a : RegNum) (b : RM) : Statement (.vpdpwsuds256 d a b) := vexRM_length' _ _ _ _ _ _ _ _
theorem vpdpwusd128 (d : RegNum) (a : RegNum) (b : RM) : Statement (.vpdpwusd128 d a b) := vexRM_length' _ _ _ _ _ _ _ _
theorem vpdpwusd256 (d : RegNum) (a : RegNum) (b : RM) : Statement (.vpdpwusd256 d a b) := vexRM_length' _ _ _ _ _ _ _ _
theorem vpdpwusds128 (d : RegNum) (a : RegNum) (b : RM) : Statement (.vpdpwusds128 d a b) := vexRM_length' _ _ _ _ _ _ _ _
theorem vpdpwusds256 (d : RegNum) (a : RegNum) (b : RM) : Statement (.vpdpwusds256 d a b) := vexRM_length' _ _ _ _ _ _ _ _
theorem vpdpwuud128 (d : RegNum) (a : RegNum) (b : RM) : Statement (.vpdpwuud128 d a b) := vexRM_length' _ _ _ _ _ _ _ _
theorem vpdpwuud256 (d : RegNum) (a : RegNum) (b : RM) : Statement (.vpdpwuud256 d a b) := vexRM_length' _ _ _ _ _ _ _ _
theorem vpdpwuuds128 (d : RegNum) (a : RegNum) (b : RM) : Statement (.vpdpwuuds128 d a b) := vexRM_length' _ _ _ _ _ _ _ _
theorem vpdpwuuds256 (d : RegNum) (a : RegNum) (b : RM) : Statement (.vpdpwuuds256 d a b) := vexRM_length' _ _ _ _ _ _ _ _
theorem vpmadd52huq128 (d : RegNum) (a : RegNum) (b : RM) : Statement (.vpmadd52huq128 d a b) := vexRM_length' _ _ _ _ _ _ _ _
theorem vpmadd52huq256 (d : RegNum) (a : RegNum) (b : RM) : Statement (.vpmadd52huq256 d a b) := vexRM_length' _ _ _ _ _ _ _ _
theorem vpmadd52luq128 (d : RegNum) (a : RegNum) (b : RM) : Statement (.vpmadd52luq128 d a b) := vexRM_length' _ _ _ _ _ _ _ _
theorem vpmadd52luq256 (d : RegNum) (a : RegNum) (b : RM) : Statement (.vpmadd52luq256 d a b) := vexRM_length' _ _ _ _ _ _ _ _
theorem tdpfp16ps (d : RegNum) (a : RegNum) (b : RegNum) : Statement (.tdpfp16ps d a b) := vexRM_length' _ _ _ _ _ _ _ _
theorem tcmmimfp16ps (d : RegNum) (a : RegNum) (b : RegNum) : Statement (.tcmmimfp16ps d a b) := vexRM_length' _ _ _ _ _ _ _ _
theorem tcmmrlfp16ps (d : RegNum) (a : RegNum) (b : RegNum) : Statement (.tcmmrlfp16ps d a b) := vexRM_length' _ _ _ _ _ _ _ _
theorem vcvtneps2bf16128 (d : RegNum) (b : RM) : Statement (.vcvtneps2bf16128 d b) := vexRM_length' _ _ _ _ _ _ _ _
theorem vcvtneps2bf16256 (d : RegNum) (b : RM) : Statement (.vcvtneps2bf16256 d b) := vexRM_length' _ _ _ _ _ _ _ _
theorem vcvtneebf162ps128 (d : RegNum) (m : MemOp) : Statement (.vcvtneebf162ps128 d m) := vexRM_length' _ _ _ _ _ _ _ _
theorem vcvtneebf162ps256 (d : RegNum) (m : MemOp) : Statement (.vcvtneebf162ps256 d m) := vexRM_length' _ _ _ _ _ _ _ _
theorem vcvtneeph2ps128 (d : RegNum) (m : MemOp) : Statement (.vcvtneeph2ps128 d m) := vexRM_length' _ _ _ _ _ _ _ _
theorem vcvtneeph2ps256 (d : RegNum) (m : MemOp) : Statement (.vcvtneeph2ps256 d m) := vexRM_length' _ _ _ _ _ _ _ _
theorem vcvtneobf162ps128 (d : RegNum) (m : MemOp) : Statement (.vcvtneobf162ps128 d m) := vexRM_length' _ _ _ _ _ _ _ _
theorem vcvtneobf162ps256 (d : RegNum) (m : MemOp) : Statement (.vcvtneobf162ps256 d m) := vexRM_length' _ _ _ _ _ _ _ _
theorem vcvtneoph2ps128 (d : RegNum) (m : MemOp) : Statement (.vcvtneoph2ps128 d m) := vexRM_length' _ _ _ _ _ _ _ _
theorem vcvtneoph2ps256 (d : RegNum) (m : MemOp) : Statement (.vcvtneoph2ps256 d m) := vexRM_length' _ _ _ _ _ _ _ _
theorem vbcstnebf162ps128 (d : RegNum) (m : MemOp) : Statement (.vbcstnebf162ps128 d m) := vexRM_length' _ _ _ _ _ _ _ _
theorem vbcstnebf162ps256 (d : RegNum) (m : MemOp) : Statement (.vbcstnebf162ps256 d m) := vexRM_length' _ _ _ _ _ _ _ _
theorem vbcstnesh2ps128 (d : RegNum) (m : MemOp) : Statement (.vbcstnesh2ps128 d m) := vexRM_length' _ _ _ _ _ _ _ _
theorem vbcstnesh2ps256 (d : RegNum) (m : MemOp) : Statement (.vbcstnesh2ps256 d m) := vexRM_length' _ _ _ _ _ _ _ _
theorem vsha512rnds2 (d : RegNum) (a : RegNum) (b : RegNum) : Statement (.vsha512rnds2 d a b) := vexRM_length' _ _ _ _ _ _ _ _
theorem vsha512msg1 (d : RegNum) (b : RegNum) : Statement (.vsha512msg1 d b) := vexRM_length' _ _ _ _ _ _ _ _
theorem vsha512msg2 (d : RegNum) (b : RegNum) : Statement (.vsha512msg2 d b) := vexRM_length' _ _ _ _ _ _ _ _
theorem vsm3msg1 (d : RegNum) (a : RegNum) (b : RM) : Statement (.vsm3msg1 d a b) := vexRM_length' _ _ _ _ _ _ _ _
theorem vsm3msg2 (d : RegNum) (a : RegNum) (b : RM) : Statement (.vsm3msg2 d a b) := vexRM_length' _ _ _ _ _ _ _ _
theorem vsm3rnds2 (d : RegNum) (a : RegNum) (b : RM) (imm : Byte) : Statement (.vsm3rnds2 d a b imm) := vexRM_length _ _ _ _ _ _ _ _ _ (by simp)
theorem vsm4key4128 (d : RegNum) (a : RegNum) (b : RM) : Statement (.vsm4key4128 d a b) := vexRM_length' _ _ _ _ _ _ _ _
theorem vsm4key4256 (d : RegNum) (a : RegNum) (b : RM) : Statement (.vsm4key4256 d a b) := vexRM_length' _ _ _ _ _ _ _ _
theorem vsm4rnds4128 (d : RegNum) (a : RegNum) (b : RM) : Statement (.vsm4rnds4128 d a b) := vexRM_length' _ _ _ _ _ _ _ _
theorem vsm4rnds4256 (d : RegNum) (a : RegNum) (b : RM) : Statement (.vsm4rnds4256 d a b) := vexRM_length' _ _ _ _ _ _ _ _
theorem prefetchnta (m : MemOp) : Statement (.prefetchnta m) := legacyMem_length _ _ _ (by decide) (by decide)
theorem prefetcht0 (m : MemOp) : Statement (.prefetcht0 m) := legacyMem_length _ _ _ (by decide) (by decide)
theorem prefetcht1 (m : MemOp) : Statement (.prefetcht1 m) := legacyMem_length _ _ _ (by decide) (by decide)
theorem prefetcht2 (m : MemOp) : Statement (.prefetcht2 m) := legacyMem_length _ _ _ (by decide) (by decide)
theorem prefetchit1 (m : MemOp) : Statement (.prefetchit1 m) := legacyMem_length _ _ _ (by decide) (by decide)
theorem prefetchit0 (m : MemOp) : Statement (.prefetchit0 m) := legacyMem_length _ _ _ (by decide) (by decide)

end Sys2Proof.Laws.EncodeShape
end

