-- ==== Sys2Proof/Tests/Slice0.lean ====
section
/-! SUPPORT. Tests: ill-formed terms, words written out from the encodings, worked vectors of the spec. -/

namespace Sys2Proof.Tests

set_option Elab.async false

open Sys2Proof Sys2Proof.Machine

/-! ## Well-formedness (30_encoding R137, R144) -/

/-- RSP cannot be an index. -/
theorem test_wf_refuses_rsp_index : (Instr.aadd32 ⟨none, false, .sib (some 0) (some 4) 0 0⟩ 0).wf = false := by decide

/-- No scale without an index. -/
theorem test_wf_refuses_scale_without_index : (Instr.prefetcht0 ⟨none, false, .sib (some 0) none 1 0⟩).wf = false := by
  decide

/-- The memory form of a register-or-memory operand is checked. -/
theorem test_wf_refuses_through_rm : (Instr.vsm3msg1 0 1 (.mem ⟨none, false, .sib none (some 4) 0 0⟩)).wf = false := by
  decide

/-- Tile 8 does not exist: as destination, first source, second source. -/
theorem test_wf_refuses_tile_destination : (Instr.tdpfp16ps 8 0 1).wf = false := by decide
theorem test_wf_refuses_tile_source1 : (Instr.tdpfp16ps 0 8 1).wf = false := by decide
theorem test_wf_refuses_tile_source2 : (Instr.tdpfp16ps 0 1 8).wf = false := by decide

/-! ## Decoding: words written out from 30_encoding, one for each constructor -/

/-- Each list of bytes decodes to its instruction, in 64-bit mode, whole. -/
def decodes (l : List (List Byte × Instr)) : Bool :=
  l.all fun e => decide (decode ⟨true, true⟩ e.1 = .instr e.2 e.1.length)

/-- `[RSI]`, `[RBX]`, `[R8+0x10]`. -/
def atRsi : MemOp := ⟨none, false, .sib (some 6) none 0 0⟩
def atRbx : MemOp := ⟨none, false, .sib (some 3) none 0 0⟩
def atR8 : MemOp := ⟨none, false, .sib (some 8) none 0 0x10⟩

theorem test_decode_fixed : decodes
    [([0x0F, 0xA2], .cpuid),
     ([0x0F, 0x01, 0xC5], .pconfig),
     ([0x0F, 0x01, 0xC6], .wrmsrns),
     ([0xF2, 0x0F, 0x01, 0xC6], .rdmsrlist),
     ([0xF3, 0x0F, 0x01, 0xC6], .wrmsrlist),
     ([0x0F, 0x01, 0xC7], .pbndkb),
     ([0x0F, 0x01, 0xC9], .mwait),
     ([0xF3, 0x0F, 0x01, 0xEC], .uiret)] = true := by decide +kernel

theorem test_decode_rao : decodes
    [([0x44, 0x0F, 0x38, 0xFC, 0x23], .aadd32 atRbx 12),
     ([0x4C, 0x0F, 0x38, 0xFC, 0x23], .aadd64 atRbx 12),
     ([0x66, 0x44, 0x0F, 0x38, 0xFC, 0x23], .aand32 atRbx 12),
     ([0x66, 0x4C, 0x0F, 0x38, 0xFC, 0x23], .aand64 atRbx 12),
     ([0xF2, 0x44, 0x0F, 0x38, 0xFC, 0x23], .aor32 atRbx 12),
     ([0xF2, 0x4C, 0x0F, 0x38, 0xFC, 0x23], .aor64 atRbx 12),
     ([0xF3, 0x44, 0x0F, 0x38, 0xFC, 0x23], .axor32 atRbx 12),
     ([0xF3, 0x4C, 0x0F, 0x38, 0xFC, 0x23], .axor64 atRbx 12)] = true := by decide +kernel

theorem test_decode_cmpccxadd1 : decodes
    [([0xC4, 0x42, 0x29, 0xE0, 0x68, 0x10], .cmpoxadd32 atR8 13 10),
     ([0xC4, 0x42, 0xA9, 0xE0, 0x68, 0x10], .cmpoxadd64 atR8 13 10),
     ([0xC4, 0x42, 0x29, 0xE1, 0x68, 0x10], .cmpnoxadd32 atR8 13 10),
     ([0xC4, 0x42, 0xA9, 0xE1, 0x68, 0x10], .cmpnoxadd64 atR8 13 10),
     ([0xC4, 0x42, 0x29, 0xE2, 0x68, 0x10], .cmpbxadd32 atR8 13 10),
     ([0xC4, 0x42, 0xA9, 0xE2, 0x68, 0x10], .cmpbxadd64 atR8 13 10),
     ([0xC4, 0x42, 0x29, 0xE3, 0x68, 0x10], .cmpnbxadd32 atR8 13 10),
     ([0xC4, 0x42, 0xA9, 0xE3, 0x68, 0x10], .cmpnbxadd64 atR8 13 10),
     ([0xC4, 0x42, 0x29, 0xE4, 0x68, 0x10], .cmpzxadd32 atR8 13 10),
     ([0xC4, 0x42, 0xA9, 0xE4, 0x68, 0x10], .cmpzxadd64 atR8 13 10),
     ([0xC4, 0x42, 0x29, 0xE5, 0x68, 0x10], .cmpnzxadd32 atR8 13 10),
     ([0xC4, 0x42, 0xA9, 0xE5, 0x68, 0x10], .cmpnzxadd64 atR8 13 10),
     ([0xC4, 0x42, 0x29, 0xE6, 0x68, 0x10], .cmpbexadd32 atR8 13 10),
     ([0xC4, 0x42, 0xA9, 0xE6, 0x68, 0x10], .cmpbexadd64 atR8 13 10),
     ([0xC4, 0x42, 0x29, 0xE7, 0x68, 0x10], .cmpnbexadd32 atR8 13 10),
     ([0xC4, 0x42, 0xA9, 0xE7, 0x68, 0x10], .cmpnbexadd64 atR8 13 10)] = true := by decide +kernel

theorem test_decode_cmpccxadd2 : decodes
    [([0xC4, 0x42, 0x29, 0xE8, 0x68, 0x10], .cmpsxadd32 atR8 13 10),
     ([0xC4, 0x42, 0xA9, 0xE8, 0x68, 0x10], .cmpsxadd64 atR8 13 10),
     ([0xC4, 0x42, 0x29, 0xE9, 0x68, 0x10], .cmpnsxadd32 atR8 13 10),
     ([0xC4, 0x42, 0xA9, 0xE9, 0x68, 0x10], .cmpnsxadd64 atR8 13 10),
     ([0xC4, 0x42, 0x29, 0xEA, 0x68, 0x10], .cmppxadd32 atR8 13 10),
     ([0xC4, 0x42, 0xA9, 0xEA, 0x68, 0x10], .cmppxadd64 atR8 13 10),
     ([0xC4, 0x42, 0x29, 0xEB, 0x68, 0x10], .cmpnpxadd32 atR8 13 10),
     ([0xC4, 0x42, 0xA9, 0xEB, 0x68, 0x10], .cmpnpxadd64 atR8 13 10),
     ([0xC4, 0x42, 0x29, 0xEC, 0x68, 0x10], .cmplxadd32 atR8 13 10),
     ([0xC4, 0x42, 0xA9, 0xEC, 0x68, 0x10], .cmplxadd64 atR8 13 10),
     ([0xC4, 0x42, 0x29, 0xED, 0x68, 0x10], .cmpnlxadd32 atR8 13 10),
     ([0xC4, 0x42, 0xA9, 0xED, 0x68, 0x10], .cmpnlxadd64 atR8 13 10),
     ([0xC4, 0x42, 0x29, 0xEE, 0x68, 0x10], .cmplexadd32 atR8 13 10),
     ([0xC4, 0x42, 0xA9, 0xEE, 0x68, 0x10], .cmplexadd64 atR8 13 10),
     ([0xC4, 0x42, 0x29, 0xEF, 0x68, 0x10], .cmpnlexadd32 atR8 13 10),
     ([0xC4, 0x42, 0xA9, 0xEF, 0x68, 0x10], .cmpnlexadd64 atR8 13 10)] = true := by decide +kernel

theorem test_decode_usermsr : decodes
    [([0xF2, 0x0F, 0x38, 0xF8, 0xCA], .urdmsrReg 2 1),
     ([0xC4, 0xE7, 0x7B, 0xF8, 0xC0, 0x00, 0x1B, 0x00, 0x00], .urdmsrImm 0 0x1B00),
     ([0xF3, 0x0F, 0x38, 0xF8, 0xCA], .uwrmsrReg 1 2),
     ([0xC4, 0xE7, 0x7A, 0xF8, 0xC2, 0x00, 0x1B, 0x00, 0x00], .uwrmsrImm 0x1B00 2)] = true := by decide +kernel

theorem test_decode_vnni8 : decodes
    [([0xC4, 0x42, 0x6B, 0x50, 0xCB], .vpdpbssd128 9 2 (.reg 11)),
     ([0xC4, 0x62, 0x6F, 0x50, 0x0E], .vpdpbssd256 9 2 (.mem atRsi)),
     ([0xC4, 0x42, 0x6B, 0x51, 0xCB], .vpdpbssds128 9 2 (.reg 11)),
     ([0xC4, 0x62, 0x6F, 0x51, 0x0E], .vpdpbssds256 9 2 (.mem atRsi)),
     ([0xC4, 0x42, 0x6A, 0x50, 0xCB], .vpdpbsud128 9 2 (.reg 11)),
     ([0xC4, 0x62, 0x6E, 0x50, 0x0E], .vpdpbsud256 9 2 (.mem atRsi)),
     ([0xC4, 0x42, 0x6A, 0x51, 0xCB], .vpdpbsuds128 9 2 (.reg 11)),
     ([0xC4, 0x62, 0x6E, 0x51, 0x0E], .vpdpbsuds256 9 2 (.mem atRsi)),
     ([0xC4, 0x42, 0x68, 0x50, 0xCB], .vpdpbuud128 9 2 (.reg 11)),
     ([0xC4, 0x62, 0x6C, 0x50, 0x0E], .vpdpbuud256 9 2 (.mem atRsi)),
     ([0xC4, 0x42, 0x68, 0x51, 0xCB], .vpdpbuuds128 9 2 (.reg 11)),
     ([0xC4, 0x62, 0x6C, 0x51, 0x0E], .vpdpbuuds256 9 2 (.mem atRsi))] = true := by decide +kernel

theorem test_decode_vnni16 : decodes
    [([0xC4, 0x42, 0x6A, 0xD2, 0xCB], .vpdpwsud128 9 2 (.reg 11)),
     ([0xC4, 0x62, 0x6E, 0xD2, 0x0E], .vpdpwsud256 9 2 (.mem atRsi)),
     ([0xC4, 0x42, 0x6A, 0xD3, 0xCB], .vpdpwsuds128 9 2 (.reg 11)),
     ([0xC4, 0x62, 0x6E, 0xD3, 0x0E], .vpdpwsuds256 9 2 (.mem atRsi)),
     ([0xC4, 0x42, 0x69, 0xD2, 0xCB], .vpdpwusd128 9 2 (.reg 11)),
     ([0xC4, 0x62, 0x6D, 0xD2, 0x0E], .vpdpwusd256 9 2 (.mem atRsi)),
     ([0xC4, 0x42, 0x69, 0xD3, 0xCB], .vpdpwusds128 9 2 (.reg 11)),
     ([0xC4, 0x62, 0x6D, 0xD3, 0x0E], .vpdpwusds256 9 2 (.mem atRsi)),
     ([0xC4, 0x42, 0x68, 0xD2, 0xCB], .vpdpwuud128 9 2 (.reg 11)),
     ([0xC4, 0x62, 0x6C, 0xD2, 0x0E], .vpdpwuud256 9 2 (.mem atRsi)),
     ([0xC4, 0x42, 0x68, 0xD3, 0xCB], .vpdpwuuds128 9 2 (.reg 11)),
     ([0xC4, 0x62, 0x6C, 0xD3, 0x0E], .vpdpwuuds256 9 2 (.mem atRsi))] = true := by decide +kernel

theorem test_decode_ifma : decodes
    [([0xC4, 0x42, 0xE9, 0xB5, 0xCB], .vpmadd52huq128 9 2 (.reg 11)),
     ([0xC4, 0x62, 0xED, 0xB5, 0x0E], .vpmadd52huq256 9 2 (.mem atRsi)),
     ([0xC4, 0x42, 0xE9, 0xB4, 0xCB], .vpmadd52luq128 9 2 (.reg 11)),
     ([0xC4, 0x62, 0xED, 0xB4, 0x0E], .vpmadd52luq256 9 2 (.mem atRsi))] = true := by decide +kernel

theorem test_decode_amx : decodes
    [([0xC4, 0xE2, 0x6B, 0x5C, 0xD9], .tdpfp16ps 3 1 2),
     ([0xC4, 0xE2, 0x69, 0x6C, 0xD9], .tcmmimfp16ps 3 1 2),
     ([0xC4, 0xE2, 0x68, 0x6C, 0xD9], .tcmmrlfp16ps 3 1 2)] = true := by decide +kernel

theorem test_decode_neconvert : decodes
    [([0xC4, 0x42, 0x7A, 0x72, 0xCB], .vcvtneps2bf16128 9 (.reg 11)),
     ([0xC4, 0x62, 0x7E, 0x72, 0x0E], .vcvtneps2bf16256 9 (.mem atRsi)),
     ([0xC4, 0x62, 0x7A, 0xB0, 0x0E], .vcvtneebf162ps128 9 atRsi),
     ([0xC4, 0x62, 0x7E, 0xB0, 0x0E], .vcvtneebf162ps256 9 atRsi),
     ([0xC4, 0x62, 0x79, 0xB0, 0x0E], .vcvtneeph2ps128 9 atRsi),
     ([0xC4, 0x62, 0x7D, 0xB0, 0x0E], .vcvtneeph2ps256 9 atRsi),
     ([0xC4, 0x62, 0x7B, 0xB0, 0x0E], .vcvtneobf162ps128 9 atRsi),
     ([0xC4, 0x62, 0x7F, 0xB0, 0x0E], .vcvtneobf162ps256 9 atRsi),
     ([0xC4, 0x62, 0x78, 0xB0, 0x0E], .vcvtneoph2ps128 9 atRsi),
     ([0xC4, 0x62, 0x7C, 0xB0, 0x0E], .vcvtneoph2ps256 9 atRsi),
     ([0xC4, 0x62, 0x7A, 0xB1, 0x0E], .vbcstnebf162ps128 9 atRsi),
     ([0xC4, 0x62, 0x7E, 0xB1, 0x0E], .vbcstnebf162ps256 9 atRsi),
     ([0xC4, 0x62, 0x79, 0xB1, 0x0E], .vbcstnesh2ps128 9 atRsi),
     ([0xC4, 0x62, 0x7D, 0xB1, 0x0E], .vbcstnesh2ps256 9 atRsi)] = true := by decide +kernel

theorem test_decode_sha512 : decodes
    [([0xC4, 0x42, 0x6F, 0xCB, 0xCB], .vsha512rnds2 9 2 11),
     ([0xC4, 0x42, 0x7F, 0xCC, 0xCB], .vsha512msg1 9 11),
     ([0xC4, 0x42, 0x7F, 0xCD, 0xCB], .vsha512msg2 9 11)] = true := by decide +kernel

theorem test_decode_sm3 : decodes
    [([0xC4, 0x42, 0x68, 0xDA, 0xCB], .vsm3msg1 9 2 (.reg 11)),
     ([0xC4, 0x42, 0x69, 0xDA, 0xCB], .vsm3msg2 9 2 (.reg 11)),
     ([0xC4, 0x43, 0x69, 0xDE, 0xCB, 0x10], .vsm3rnds2 9 2 (.reg 11) 0x10)] = true := by decide +kernel

theorem test_decode_sm4 : decodes
    [([0xC4, 0x42, 0x6A, 0xDA, 0xCB], .vsm4key4128 9 2 (.reg 11)),
     ([0xC4, 0x62, 0x6E, 0xDA, 0x0E], .vsm4key4256 9 2 (.mem atRsi)),
     ([0xC4, 0x42, 0x6B, 0xDA, 0xCB], .vsm4rnds4128 9 2 (.reg 11)),
     ([0xC4, 0x62, 0x6F, 0xDA, 0x0E], .vsm4rnds4256 9 2 (.mem atRsi))] = true := by decide +kernel

theorem test_decode_prefetch : decodes
    [([0x0F, 0x18, 0x06], .prefetchnta atRsi),
     ([0x0F, 0x18, 0x0E], .prefetcht0 atRsi),
     ([0x0F, 0x18, 0x16], .prefetcht1 atRsi),
     ([0x0F, 0x18, 0x1E], .prefetcht2 atRsi),
     ([0x0F, 0x18, 0x36], .prefetchit1 atRsi),
     ([0x0F, 0x18, 0x3E], .prefetchit0 atRsi)] = true := by decide +kernel

/-- Encodings that raise #UD: LOCK, a byte before VEX, a register ModRM of RAO, VEX.W of VPDPBSSD (30_encoding R132,
R138, R139; 41_rao R211). -/
theorem test_decode_undefined :
    [[0xF0, 0x0F, 0xA2], [0x66, 0xC4, 0xE2, 0x41, 0xE4, 0x32], [0x48, 0xC4, 0xE2, 0x41, 0xE4, 0x32],
      [0x0F, 0x38, 0xFC, 0xC3], [0xC4, 0x42, 0xEB, 0x50, 0xCB], [0x48, 0xF0, 0xC4, 0xE2, 0x41, 0xE4, 0x32],
      [0x40, 0x48, 0xC4, 0xE2, 0x41, 0xE4, 0x32]].all
        (fun bs => decide (decode ⟨true, true⟩ bs = .undefined)) = true := by decide +kernel

/-- Outside the table, EVEX, two mandatory bytes, a misplaced REX: refused by name; `0F 18 /4` is a reserved NOP. -/
theorem test_decode_refused :
    decode ⟨true, true⟩ [0x90] = .refused .outsideSpec ∧ decode ⟨true, true⟩ [0x62, 0, 0, 0] = .refused .evex ∧
      decode ⟨true, true⟩ [0x66, 0xF2, 0x0F, 0x38, 0xFC, 0x23] = .refused .severalMandatory ∧
      decode ⟨true, true⟩ [0x48, 0xF2, 0x0F, 0x38, 0xFC, 0x23] = .refused .rexMisplaced ∧
      decode ⟨true, true⟩ [0xF2, 0x64, 0x0F, 0x38, 0xFC, 0x23] ≠
        .instr (.aor32 ⟨some .fs, false, .sib (some 3) none 0 0⟩ 4) 6 ∧
      decode ⟨true, true⟩ [0x0F, 0x18, 0x26] = .nop 3 ∧ decode ⟨true, true⟩ [0x0F, 0x18, 0xC6] = .nop 3 ∧
      decode ⟨true, true⟩ [0x0F, 0x18, 0xF6] = .registerHint 3 := by decide +kernel

/-- In 64-bit mode an ES override after FS has no effect (30_encoding R132); outside it, an unused vvvv of 0111b is no
1111b (R139). -/
theorem test_decode_modes :
    decode ⟨true, true⟩ [0x64, 0x26, 0x0F, 0x18, 0x06] =
      .instr (.prefetchnta ⟨some .fs, false, .sib (some 6) none 0 0⟩) 5 ∧
    decode ⟨false, true⟩ [0xC4, 0xE2, 0x7A, 0x72, 0xCB] = .instr (.vcvtneps2bf16128 1 (.reg 3)) 5 ∧
    decode ⟨false, true⟩ [0xC4, 0xE2, 0x3A, 0x72, 0xCB] = .undefined := by decide +kernel

/-! ## Machine: worked vectors of the spec -/

/-- The outcome is a next state with the property. -/
def goes (o : Host.Outcome State Fault Refusal) (p : State → Bool) : Bool :=
  match o with
  | .next t => p t
  | _ => false

/-- The outcome is the exception with this code. -/
def raises (o : Host.Outcome State Fault Refusal) (e : Exc) (code : DWord) : Bool :=
  match o with
  | .fault (.exception e' code' _ _) => decide (e' = e) && decide (code' = code)
  | _ => false

/-- A 64-bit machine at CPL 0 with every enable of the instructions on; the instruction is at 1000H and 5 bytes
long. -/
def bench : State :=
  { State.reset with
    mode := .long64
    cr4 := 0x2040000
    xcr0 := 0x60007
    rip := 0x1000
    nextRip := 0x1005 }

/-- Store a number of `n` bytes. -/
def poke (s : State) (a n v : Nat) : State := { s with mem := s.mem.writeAll (paRange a n) (leBytes n v) }

/-- The number in `n` bytes. -/
def peek (s : State) (a n : Nat) : Nat := leNat (s.bytesAt (paRange a n))

/-- Vector registers 1, 2, 3. -/
def vecs (d a b : Vec) : State := ((bench.setVreg 1 d).setVreg 2 a).setVreg 3 b

/-- The result in register 1. -/
def gives (o : Host.Outcome State Fault Refusal) (v : Vec) : Bool := goes o fun t => decide (t.vreg 1 = v)

/-- V3: the vendor string, and bits 63:32 cleared. -/
theorem test_cpuid_vendor :
    goes (exec .cpuid (bench.setReg 0 0xFFFFFFFF00000000)) fun t =>
      decide (t.reg 3 = 0x756E6547) && decide (t.reg 2 = 0x49656E69) && decide (t.reg 1 = 0x6C65746E) &&
      decide (t.reg 0 = 0x24) = true := by decide +kernel

/-- V4: the signature 000C0662H. -/
theorem test_cpuid_signature : displayedFamily 0x000C0662 = 6 ∧ displayedModel 0x000C0662 = 0xC6 := by decide

/-- V6: queued, then performed. -/
theorem test_aadd32 :
    goes (exec (.aadd32 atRsi 0) ((poke (bench.setReg 6 0x4000) 0x4000 4 0xFFFFFFFF).setReg 0 0x2)) fun t =>
      decide (peek t 0x4000 4 = 0xFFFFFFFF) && decide (peek (raoDrain t) 0x4000 4 = 0x1) && decide (t.rip = 0x1005) = true := by decide +kernel

/-- V7: queued, then performed. -/
theorem test_aand32 :
    goes (exec (.aand32 atRsi 1) ((poke (bench.setReg 6 0x4000) 0x4000 4 0xF0F0F0F0).setReg 1 0xFF000FF)) fun t =>
      decide (peek t 0x4000 4 = 0xF0F0F0F0) && decide (peek (raoDrain t) 0x4000 4 = 0xF000F0) && decide (t.rip = 0x1005) = true := by decide +kernel

/-- V7: queued, then performed. -/
theorem test_aor32 :
    goes (exec (.aor32 atRsi 2) ((poke (bench.setReg 6 0x4000) 0x4000 4 0x1).setReg 2 0x80000000)) fun t =>
      decide (peek t 0x4000 4 = 0x1) && decide (peek (raoDrain t) 0x4000 4 = 0x80000001) && decide (t.rip = 0x1005) = true := by decide +kernel

/-- V7: queued, then performed. -/
theorem test_axor32 :
    goes (exec (.axor32 atRsi 0) ((poke (bench.setReg 6 0x4000) 0x4000 4 0xAAAAAAAA).setReg 0 0xFFFFFFFF)) fun t =>
      decide (peek t 0x4000 4 = 0xAAAAAAAA) && decide (peek (raoDrain t) 0x4000 4 = 0x55555555) && decide (t.rip = 0x1005) = true := by decide +kernel

/-- V8. -/
theorem test_aadd_misaligned :
    raises (exec (.aadd32 atRsi 0) (bench.setReg 6 0x1002)) .gp 0 = true := by decide +kernel

/-- CMPccXADD on [RSI] with `a` in RCX (its upper half not 0) and `b` in RDX: memory, RCX after, and RFLAGS. -/
def cmpVector (i : Instr) (n m a b m' a' : Nat) (flags : Option QWord) : Bool :=
  goes (exec i ((((poke bench 0x4000 n m).setReg 6 0x4000).setReg 1 (BitVec.ofNat 64 (a + (if n = 4 then 2 ^ 63 else 0)))).setReg 2
      (BitVec.ofNat 64 b))) fun t =>
    decide (peek t 0x4000 n = m') && decide (t.reg 1 = BitVec.ofNat 64 a') && decide (t.reg 2 = BitVec.ofNat 64 b) &&
      (match flags with | some f => decide (t.rflags = f ||| 2) | none => true)

/-- V11. -/
theorem test_cmpccxadd_1 :
    (cmpVector (.cmpzxadd32 atRsi 1 2) 4 0x5 0x5 0x3 0x8 0x5 (some 0x44) &&
      cmpVector (.cmpzxadd32 atRsi 1 2) 4 0x5 0x6 0x3 0x5 0x5 (some 0x95) &&
      cmpVector (.cmpbxadd32 atRsi 1 2) 4 0x1 0x2 0xA 0xB 0x1 (some 0x95) &&
      cmpVector (.cmplxadd32 atRsi 1 2) 4 0x80000000 0x1 0x1 0x80000001 0x80000000 (some 0x814) &&
      cmpVector (.cmpoxadd32 atRsi 1 2) 4 0x80000000 0x1 0x1 0x80000001 0x80000000 (some 0x814) &&
      cmpVector (.cmpnlexadd32 atRsi 1 2) 4 0x7FFFFFFF 0xFFFFFFFF 0x1 0x80000000 0x7FFFFFFF (some 0x885)) = true := by decide +kernel

/-- V11. -/
theorem test_cmpccxadd_2 :
    (cmpVector (.cmpbexadd32 atRsi 1 2) 4 0xFFFFFFFF 0x0 0x1 0xFFFFFFFF 0xFFFFFFFF (some 0x84) &&
      cmpVector (.cmpsxadd32 atRsi 1 2) 4 0x0 0x1 0xFFFFFFFF 0xFFFFFFFF 0x0 (some 0x95) &&
      cmpVector (.cmppxadd32 atRsi 1 2) 4 0x3 0x0 0xFFFFFFFF 0x2 0x3 (some 0x4) &&
      cmpVector (.cmpnzxadd64 atRsi 1 2) 8 0xFFFFFFFFFFFFFFFF 0x0 0x1 0x0 0xFFFFFFFFFFFFFFFF (some 0x84) &&
      cmpVector (.cmpnbxadd64 atRsi 1 2) 8 0x10 0x1 0xF0 0x100 0x10 (some 0x14) &&
      cmpVector (.cmplexadd64 atRsi 1 2) 8 0x8000000000000000 0x7FFFFFFFFFFFFFFF 0x8000000000000000 0x0 0x8000000000000000 (some 0x810)) = true := by decide +kernel

/-- The examples of 42 R241, R244, R245, R247, R249. -/
theorem test_cmpccxadd_3 :
    (cmpVector (.cmpnbexadd32 atRsi 1 2) 4 0x9 0x4 0x1 0xA 0x9 none &&
      cmpVector (.cmpnlxadd32 atRsi 1 2) 4 0x0 0x0 0x7 0x7 0x0 none &&
      cmpVector (.cmpnoxadd32 atRsi 1 2) 4 0x7FFFFFFF 0xFFFFFFFF 0x1 0x7FFFFFFF 0x7FFFFFFF none &&
      cmpVector (.cmpnpxadd32 atRsi 1 2) 4 0x3 0x0 0x1 0x3 0x3 none &&
      cmpVector (.cmpnsxadd32 atRsi 1 2) 4 0x0 0x1 0x5 0x0 0x0 none) = true := by decide +kernel

/-- V12: the same register twice. -/
theorem test_cmpzxadd_same : goes (exec (.cmpzxadd32 atRsi 1 1) (((poke bench 0x4000 4 5).setReg 6 0x4000).setReg 1 5))
    (fun t => decide (peek t 0x4000 4 = 10) && decide (t.reg 1 = 5)) = true := by decide +kernel

/-- V62: the UC lock of 60 R510, as #AC(4) and as #GP(0). -/
def ucBench (caps : QWord) : State :=
  { bench.setReg 6 0x4000 with
    msrs := [(0x33, 0x10000000), (0xCF, caps)]
    platform := { resetPlatform with memTypes := [⟨0x4000, 0x1000, .uc⟩] } }

theorem test_uclock :
    (raises (exec (.cmpzxadd32 atRsi 1 2) (ucBench 0)) .ac 4 && raises (exec (.cmpzxadd32 atRsi 1 2) (ucBench 0x10)) .gp 0) = true := by decide +kernel

/-- V30's input: keys 00 to 3F, challenge A5. -/
def bindBench : State :=
  (poke (poke bench 0x10040 64 (leNat ((List.range 64).map (BitVec.ofNat 8)))) 0x10080 32
    (leNat (List.replicate 32 0xA5))).setReg 3 0x10000 |>.setReg 1 0x10100

/-- V30: the parts that do not depend on the cryptography. -/
theorem test_pbndkb :
    goes (exec .pbndkb (bindBench.setReg 0 7)) fun t =>
      decide (t.reg 0 = 0) && decide (t.rflags = 2) && decide (t.reg 1 = 0x10100) && decide (t.draws = 1) = true := by decide +kernel

/-- V30, variants. -/
theorem test_pbndkb_variants :
    (raises (exec .pbndkb (poke bindBench 0x100A0 1 2)) .gp 0 && raises (exec .pbndkb (bindBench.setReg 1 0x10000)) .gp 0 &&
      raises (exec .pbndkb (bindBench.setReg 3 0x10010)) .gp 0 && raises (exec .pbndkb { bindBench with cpl := 3 }) .ud 0 &&
      goes (exec .pbndkb { bindBench with env := { resetEnv with entropyShort := [true] } }) (fun t =>
        decide (t.reg 0 = 2) && decide (t.rflags = 0x42) && decide (peek t 0x10100 256 = 0))) = true := by decide +kernel

/-- V31. -/
theorem test_pconfig_faults :
    (raises (exec .pconfig (bench.setReg 0 7)) .gp 0 && raises (exec .pconfig { bench with cpl := 3 }) .ud 0) = true := by decide +kernel

/-- A key-program structure at 10000H: KeyID 1, command 0, algorithm 1, keys 5 and 6 (43 R265). -/
def keyBench : State :=
  { poke (poke (poke bench 0x10000 6 0x1000001) 0x10040 64 5) 0x10080 64 6 with msrs := [(0x982, 0x1000F00000003), (addrTseCapability, 0x40000000001)] }.setReg 3 0x10000

/-- Leaf 0 (43 R264). -/
theorem test_pconfig_tme :
    goes (exec .pconfig (keyBench.setReg 0 0)) fun t =>
      decide (t.tmeKeys = [(1, ⟨.encrypt, 1, 5, 6⟩)]) && decide (t.reg 0 = 0) = true := by decide +kernel

/-- V31: the lock is taken. -/
theorem test_pconfig_busy :
    goes (exec .pconfig { keyBench.setReg 0 1 with env := { resetEnv with lockBusy := [true] } }) fun t =>
      decide (t.tseKeys = []) && decide (t.reg 0 = 5) && decide (t.rflags = 0x42) = true := by decide +kernel

/-- V33's tables. -/
def listBench (mask : QWord) : State :=
  { poke (poke bench 0x4000 8 0x1C) 0x4010 8 0x1B00 with
    msrs := [(0x1C, 0x300001)], userTimer := ⟨0x12345640, 0, false⟩ }.setReg 6 0x4000 |>.setReg 7 0x5000 |>.setReg 1 mask

/-- V33. -/
theorem test_rdmsrlist :
    goes (exec .rdmsrlist (listBench 5)) fun t =>
      decide (peek t 0x5000 8 = 0x300001) && decide (peek t 0x5008 8 = 0) && decide (peek t 0x5010 8 = 0x12345640) &&
      decide (t.reg 1 = 0) && decide (t.rip = 0x1005) = true := by decide +kernel

/-- V34: iteration 0 completes, iteration 1 raises #GP(0) with RCX = 6. -/
theorem test_rdmsrlist_partial :
    (match exec .rdmsrlist (poke (listBench 7) 0x4008 8 0x100000010) with
      | .fault (.exception e _ rip t) =>
        decide (e = .gp) && decide (rip = 0x1000) && decide (t.reg 1 = 6) && decide (peek t 0x5000 8 = 0x300001) &&
          decide (peek t 0x5010 8 = 0)
      | _ => false) = true := by decide +kernel

/-- V36. -/
theorem test_wrmsrlist :
    (goes (exec .wrmsrlist (poke (poke ((bench.setReg 6 0x4000).setReg 7 0x5000 |>.setReg 1 2) 0x4008 8 0x1B01) 0x5008 8 1)) (fun t =>
        decide (Store.get 0 0x1B01 t.msrs = 1) && decide (t.reg 1 = 0)) &&
      raises (exec .wrmsrlist (poke (poke ((bench.setReg 6 0x4000).setReg 7 0x5000 |>.setReg 1 2) 0x4008 8 0x1C) 0x5008 8 2)) .gp 0) = true := by decide +kernel

/-- V37. -/
theorem test_wrmsrns :
    (goes (exec .wrmsrns (((bench.setReg 1 0x1B01).setReg 0 0xFFFFFFFF00000001).setReg 2 0)) (fun t => decide (Store.get 0 0x1B01 t.msrs = 1)) &&
      raises (exec .wrmsrns { bench.setReg 1 0x1B01 with cpl := 3 }) .gp 0) = true := by decide +kernel

/-- V38's machine: CPL 3, the bitmaps at 300000H. -/
def userBench (at1 at2 : Nat) : State :=
  { poke (poke bench 0x300360 1 at1) 0x300B60 1 at2 with
    cpl := 3, msrs := [(0x1C, 0x300001)], userTimer := ⟨0x12345640, 0, false⟩ }

/-- V38. -/
theorem test_urdmsr :
    (goes (exec (.urdmsrImm 0 0x1B00) (userBench 1 0)) (fun t => decide (t.reg 0 = 0x12345640)) &&
      raises (exec (.urdmsrImm 0 0x1B00) (userBench 0 0)) .gp 0 &&
      raises (exec (.urdmsrImm 0 0x1B00) { userBench 1 0 with msrs := [] }) .ud 0 &&
      raises (exec (.urdmsrImm 0 0x4000) (userBench 1 0)) .gp 0 &&
      goes (exec (.urdmsrReg 0 5) ((userBench 1 0).setReg 5 0x1B00)) (fun t => decide (t.reg 0 = 0x12345640))) = true := by decide +kernel

/-- V39. -/
theorem test_uwrmsr :
    (goes (exec (.uwrmsrImm 0x1B00 2) ((userBench 0 1).setReg 2 0x100000045)) (fun t => decide (t.userTimer = ⟨0x100000040, 5, false⟩)) &&
      raises (exec (.uwrmsrImm 0x1B00 2) (userBench 1 0)) .gp 0 &&
      goes (exec (.uwrmsrReg 5 2) (((userBench 0 1).setReg 2 0x100000040).setReg 5 0x1B00)) (fun t => decide (t.userTimer.deadline = 0x100000040))) = true := by decide +kernel

theorem test_msr_aliases : (canonMsr bench 0x4C2, canonMsr bench 0x187, canonMsr bench 0xC2, canonMsr bench 0x30A) =
    (0x1904, 0x1905, 0x1904, 0x1984) := by decide +kernel

/-- V40. -/
theorem test_fp16_to_fp32 :
    [0x0000, 0x8000, 0x0001, 0x0200, 0x03FF, 0x0400, 0x3C00, 0xC000, 0x7BFF, 0x7E00, 0x7D01, 0xFD55].map (fp16ToFp32 true) =
      [0x00000000, 0x80000000, 0x33800000, 0x38000000, 0x387FC000, 0x38800000, 0x3F800000, 0xC0000000, 0x477FE000, 0x7FC00000, 0x7FE02000, 0xFFEAA000] := by decide +kernel

/-- V41 and 45 R341. -/
theorem test_fp32_to_bf16 :
    [0x3F800000, 0x40490FDB, 0xC0490FDB, 0x7F7FFFFF, 0x3F808000, 0x3F818000, 0x3F808001, 0x00400000, 0x807FFFFF, 0x7F800001, 0xFFFFFFFF].map fp32ToBf16 =
      [0x3F80, 0x4049, 0xC049, 0x7F80, 0x3F80, 0x3F82, 0x3F81, 0x0000, 0x8000, 0x7FC0, 0xFFFF] := by decide +kernel

/-- V42. -/
theorem test_vcvtne_bf16 :
    (gives (exec (.vcvtneebf162ps128 1 atRsi) (poke ((vecs (BitVec.allOnes 512) 0 0).setReg 6 0x4000) 0x4000 16 0x410040E040C040A04080404040003F80)) 0x40E0000040A00000404000003F800000 &&
      gives (exec (.vcvtneobf162ps128 1 atRsi) (poke ((vecs (BitVec.allOnes 512) 0 0).setReg 6 0x4000) 0x4000 16 0x410040E040C040A04080404040003F80)) 0x4100000040C000004080000040000000) = true := by decide +kernel

/-- The examples of 45 R338, R340. -/
theorem test_vcvtne_ph :
    (gives (exec (.vcvtneeph2ps128 1 atRsi) (poke ((vecs (BitVec.allOnes 512) 0 0).setReg 6 0x4000) 0x4000 16 0xC0007C003C00)) 0xC00000003F800000 &&
      gives (exec (.vcvtneoph2ps128 1 atRsi) (poke ((vecs (BitVec.allOnes 512) 0 0).setReg 6 0x4000) 0x4000 16 0xC0007C003C00)) 0x7F800000) = true := by decide +kernel

/-- V43. -/
theorem test_vbcst :
    (gives (exec (.vbcstnesh2ps256 1 atRsi) (poke ((vecs (BitVec.allOnes 512) 0 0).setReg 6 0x4000) 0x4000 16 1)) 0x3380000033800000338000003380000033800000338000003380000033800000 &&
      gives (exec (.vbcstnebf162ps128 1 atRsi) (poke ((vecs (BitVec.allOnes 512) 0 0).setReg 6 0x4000) 0x4000 16 0x3F80)) 0x3F8000003F8000003F8000003F800000) = true := by decide +kernel

/-- V44. -/
theorem test_vcvtneps2bf16 :
    gives (exec (.vcvtneps2bf16256 1 (.reg 3)) (vecs (BitVec.allOnes 512) 0 0xFFFFFFFF7F800001807FFFFF004000007F7FFFFF3F8180003F8080003F800000)) 0xFFFF7FC0800000007F803F823F803F80 = true := by decide +kernel

/-- V45. -/
theorem test_vnni_1 :
    (gives (exec (.vpdpbssd128 1 2 (.reg 3)) (vecs 0x10 0x1FF7F80 0x2020202)) 0xE &&
      gives (exec (.vpdpbssd128 1 2 (.reg 3)) (vecs 0x7FFFFFF0 0x7F7F7F7F 0x7F7F7F7F)) 0x8000FBF4 &&
      gives (exec (.vpdpbssds128 1 2 (.reg 3)) (vecs 0x7FFFFFF0 0x7F7F7F7F 0x7F7F7F7F)) 0x7FFFFFFF &&
      gives (exec (.vpdpbssds128 1 2 (.reg 3)) (vecs 0x80000005 0x80808080 0x7F7F7F7F)) 0x80000000 &&
      gives (exec (.vpdpbsud128 1 2 (.reg 3)) (vecs 0x0 0x80808080 0x2020202)) 0xFFFFFC00 &&
      gives (exec (.vpdpbsud128 1 2 (.reg 3)) (vecs 0x0 0xFFFFFFFF 0xFFFFFFFF)) 0xFFFFFC04 &&
      gives (exec (.vpdpbsuds128 1 2 (.reg 3)) (vecs 0x80000000 0x80808080 0xFFFFFFFF)) 0x80000000 &&
      gives (exec (.vpdpbuud128 1 2 (.reg 3)) (vecs 0xFFFFFF00 0xFFFFFFFF 0xFFFFFFFF)) 0x3F704 &&
      gives (exec (.vpdpbuuds128 1 2 (.reg 3)) (vecs 0xFFFFFF00 0xFFFFFFFF 0xFFFFFFFF)) 0xFFFFFFFF) = true := by decide +kernel

/-- V45. -/
theorem test_vnni_2 :
    (gives (exec (.vpdpbuuds128 1 2 (.reg 3)) (vecs 0x80000000 0xFFFFFFFF 0xFFFFFFFF)) 0x8003F804 &&
      gives (exec (.vpdpwsud128 1 2 (.reg 3)) (vecs 0x1 0x80007FFF 0xFFFF0002)) 0x80017FFF &&
      gives (exec (.vpdpwsuds128 1 2 (.reg 3)) (vecs 0x80000000 0x80008000 0xFFFFFFFF)) 0x80000000 &&
      gives (exec (.vpdpwusd128 1 2 (.reg 3)) (vecs 0x1 0xFFFF0002 0x80007FFF)) 0x80017FFF &&
      gives (exec (.vpdpwusds128 1 2 (.reg 3)) (vecs 0x7FFFFFFF 0xFFFFFFFF 0x7FFF7FFF)) 0x7FFFFFFF &&
      gives (exec (.vpdpwuud128 1 2 (.reg 3)) (vecs 0x5 0xFFFFFFFF 0xFFFFFFFF)) 0xFFFC0007 &&
      gives (exec (.vpdpwuuds128 1 2 (.reg 3)) (vecs 0x5 0xFFFFFFFF 0xFFFFFFFF)) 0xFFFFFFFF &&
      gives (exec (.vpdpwuuds128 1 2 (.reg 3)) (vecs 0x5 0x10002 0x30004)) 0x10) = true := by decide +kernel

/-- V46. -/
theorem test_ifma :
    (gives (exec (.vpmadd52huq256 1 2 (.reg 3)) (vecs 0x1 0xFFFFFFFFFFFFF 0xFFFFFFFFFFFFF)) 0xFFFFFFFFFFFFF &&
      gives (exec (.vpmadd52luq256 1 2 (.reg 3)) (vecs 0xFFFFFFFFFFFFFFFF 0xFFFFFFFFFFFFF 0xFFFFFFFFFFFFF)) 0x0 &&
      gives (exec (.vpmadd52luq256 1 2 (.reg 3)) (vecs 0xA 0xFFF0000000000003 0x10000000000005)) 0x19 &&
      gives (exec (.vpmadd52huq256 1 2 (.reg 3)) (vecs 0x0 0x8000000000000 0x4)) 0x2 &&
      gives (exec (.vpmadd52luq256 1 2 (.reg 3)) (vecs 0x0 0x8000000000000 0x4)) 0x0 &&
      gives (exec (.vpmadd52huq256 1 2 (.reg 3)) (vecs 0x10 0x123456789ABCD 0xFEDCBA9876543)) 0x121FA00AD77E6 &&
      gives (exec (.vpmadd52luq256 1 2 (.reg 3)) (vecs 0x10 0x123456789ABCD 0xFEDCBA9876543)) 0x51D9657EAD7B7) = true := by decide +kernel

/-- 47 R383. -/
theorem test_sha512msg2 :
    gives (exec (.vsha512msg2 1 3) (vecs 0x6162638000000000 0 0x18000000000000000000000000000000000000000000000000)) 0xC00600006030A9699A24C70000300030000000000C06162638000000000 = true := by decide +kernel

/-- 47 R382. -/
theorem test_sha512msg1 :
    gives (exec (.vsha512msg1 1 3) (vecs 0x20000000000000000 0 0)) 0x20200000000000001 = true := by decide +kernel

/-- 47 R384. -/
theorem test_sha512rnds2 :
    gives (exec (.vsha512rnds2 1 2 3) (vecs 0x3C6EF372FE94F82BA54FF53A5F1D36F11F83D9ABFB41BD6B5BE0CD19137E2179 0x6A09E667F3BCC908BB67AE8584CAA73B510E527FADE682D19B05688C2B3E6C1F 0x7137449123EF65CDA3EC9318D728AE22))
      0x1320F8C9FB872CC0F6AFCEB8BCFCDDF5C3D4EBFD48650FFA58CB02347AB51F91 = true := by decide +kernel

/-- 47 R388. -/
theorem test_sm3msg1 :
    gives (exec (.vsm3msg1 1 2 (.reg 3)) (vecs 0 0x7000000180000000000000000 0x61626380)) 0xC0606000000009092E200 = true := by decide +kernel

/-- 47 R389. -/
theorem test_sm3msg2 :
    gives (exec (.vsm3msg2 1 2 (.reg 3)) (vecs 0xC0606000000009092E200 0 0)) 0x719C70ED000C0606000000009092E200 = true := by decide +kernel

/-- 47 R390. -/
theorem test_sm3rnds2 :
    gives (exec (.vsm3rnds2 1 2 (.reg 3) 0) (vecs 0x6B8B9221006D4503BDC9BC7161C9D61F 0x7380166F4914B2B9A96F30BC163138AA 0x61626380))
      0xEA52428CB9EDC12BAC353A23B2AD29F4 = true := by decide +kernel

/-- 47 R395. -/
theorem test_sm4key4 :
    gives (exec (.vsm4key4128 1 2 (.reg 3)) (vecs 9 0xC42410CC99A12B0FDF01FEBFA292FFA1 0x545B6269383F464D1C232A3100070E15)) 0x7BA920775A6AB19A41662B61F12186F9 = true := by decide +kernel

/-- 47 R396, in the upper lane. -/
theorem test_sm4rnds4 :
    goes (exec (.vsm4rnds4256 1 2 (.reg 3)) (vecs 9 0x76543210FEDCBA9889ABCDEF0123456700000000000000000000000000000000 0x7BA920775A6AB19A41662B61F12186F900000000000000000000000000000000))
      fun t => decide ((t.vreg 1).extractLsb' 128 384 = 0xCC13E2EE11C1E22AA18B4CB227FAD345) = true := by decide +kernel

/-- V50's tiles: one row of four bytes each. -/
def tileBench (c a b : Vec) : State :=
  { bench with
    tilecfg := ⟨1, 0, Vector.replicate 8 1, Vector.replicate 8 4⟩
    tiles := (((Vector.replicate 8 (Vector.replicate 16 (BitVec.allOnes 512))).set 0 (Vector.replicate 16 c)).set 1
      (Vector.replicate 16 a)).set 2 (Vector.replicate 16 b) }

/-- Tile 0 after the instruction is this dword and zeros. -/
def tileGives (o : Host.Outcome State Fault Refusal) (v : Vec) : Bool :=
  goes o fun t => decide ((t.tile 0).toList = v :: List.replicate 15 0)

/-- V50, V53. -/
theorem test_tdpfp16ps :
    (tileGives (exec (.tdpfp16ps 0 1 2) (tileBench 0x3F800000 0x40003C00 0x44004200)) 0x41400000 &&
      tileGives (exec (.tdpfp16ps 0 1 2) (tileBench 0 1 0x3C00)) 0x33800000 && tileGives (exec (.tdpfp16ps 0 1 2) (tileBench 0 1 1)) 0x27800000 &&
      tileGives (exec (.tdpfp16ps 0 1 2) (tileBench 0x400000 0 0)) 0) = true := by decide +kernel

/-- V51. -/
theorem test_tcmmfp16ps :
    (tileGives (exec (.tcmmimfp16ps 0 1 2) (tileBench 0 0x40003C00 0x44004200)) 0x41200000 &&
      tileGives (exec (.tcmmrlfp16ps 0 1 2) (tileBench 0 0x40003C00 0x44004200)) 0xC0A00000) = true := by decide +kernel

/-- 60 R484 item 1: with 16-bit addressing #UD of LOCK, of the feature flag and of the XSAVE enables, and #NM, come first. -/
theorem test_narrow_checks :
    (decide (decode ⟨false, false⟩ [0xF0, 0x0F, 0x38, 0xFC, 0x07] = .undefined) &&
      (match decode ⟨false, false⟩ [0xC4, 0xE2, 0x6A, 0x50, 0x0F] with
        | .narrow i =>
          raises (narrowOutcome (exec i { bench with mode := .legacy, xcr0 := 1 })) .ud 0 &&
            raises (narrowOutcome (exec i { bench with mode := .legacy, cr0 := 8 })) .nm 0 &&
            (match narrowOutcome (exec i { bench with mode := .legacy }) with | .refused r => decide (r = .addr16) | _ => false)
        | _ => false)) = true := by decide +kernel

/-- 30_encoding R144: tmm8 as destination. -/
theorem test_decode_tile_above_7 :
    decide (decode ⟨true, true⟩ [0xC4, 0x62, 0x73, 0x5C, 0xC2] = .undefined) = true := by decide +kernel

/-- V50: every admissible order agrees. -/
theorem test_amx_exact :
    (amxExact .dot 0x3F800000 [(0x40003C00, 0x44004200)] && amxExact .real 0 [(0x40003C00, 0x44004200)]) = true := by decide +kernel

/-- An order that reads denormals, rounds each sum and starts with the last term. -/
def lastFirst : AmxOrder := ⟨[(2, 0, true), (0, 0, true)], true, true, true⟩

/-- 48_amx R421: 1 + 2^-48, and V53c, a denormal accumulator with zero products, in different orders. -/
theorem test_amx_orders :
    ([⟨[], false, false, false⟩, lastFirst].all fun o =>
      decide (amxOrdered o 0 .dot 0x3F800000 [(1, 1)] = 0x3F800000) &&
        decide (amxOrdered o 0 .dot 0x00400000 [(0, 0)] = 0)) = true := by decide +kernel

/-- Infinities of both signs are no number in any order (48_amx R421). -/
theorem test_amx_orders_nan :
    ([⟨[], false, false, false⟩, lastFirst].all fun o =>
      fpNaN (amxOrdered o 5 .dot 0x7F800000 [(0xFC00, 0x3C00)])) = true := by decide +kernel

/-- V52. -/
theorem test_amx_ud :
    (raises (exec (.tdpfp16ps 0 0 1) (tileBench 0 0 0)) .ud 0 && raises (exec (.tdpfp16ps 0 1 2) bench) .ud 0 &&
      raises (exec (.tdpfp16ps 0 1 2) { tileBench 0 0 0 with xcr0 := 7 }) .ud 0) = true := by decide +kernel

/-- A list whose first entry's value overwrites the address of its second: RDI = RSI + 8, MSR 1CH = 1CH. -/
def aliasBench (load : List ListLoad) : State :=
  { poke (poke bench 0x4000 8 0x1C) 0x4008 8 0x1B00 with
    msrs := [(0x1C, 0x1C)], userTimer := ⟨0x12345640, 0, false⟩
    env := { resetEnv with loadAhead := load } }.setReg 6 0x4000 |>.setReg 7 0x4008 |>.setReg 1 3

/-- 93 U22: the second entry is loaded after or before the store of the first. -/
theorem test_rdmsrlist_load_ahead :
    (goes (exec .rdmsrlist (aliasBench [])) (fun t => decide (peek t 0x4010 8 = 0x1C)) &&
      goes (exec .rdmsrlist (aliasBench [.inTurn, .early 1 0])) (fun t => decide (peek t 0x4010 8 = 0x12345640))) = true := by decide +kernel

/-- V55's frame at 7000H. -/
def frameBench (image old : QWord) : State :=
  { poke (poke (poke bench 0x7000 8 0x401000) 0x7008 8 image.toNat) 0x7010 8 0x8000 with
    cpl := 3, rflags := old }.setReg 4 0x7000

/-- V55, V56. -/
theorem test_uiret :
    (goes (exec .uiret (frameBench 0x246 0x202)) (fun t => decide (t.rip = 0x401000) && decide (t.reg 4 = 0x8000) && decide (t.rflags = 0x246) && t.uif) &&
      goes (exec .uiret (frameBench 0x244 0x202)) (fun t => decide (t.rflags = 0x246) && !t.uif) &&
      goes (exec .uiret (frameBench 0xFFFFFFFFFFFFFFFF 0x3202)) (fun t => decide (t.rflags = 0x257FD7))) = true := by decide +kernel

/-- V57. -/
theorem test_uiret_noncanonical :
    raises (exec .uiret (poke (frameBench 0x246 0x202) 0x7000 8 0x800000000000)) .gp 0 = true := by decide +kernel

/-- V58, and a wait on an armed monitor (49 R472). -/
theorem test_mwait :
    (raises (exec .mwait { bench with cpl := 3 }) .ud 0 && raises (exec .mwait (bench.setReg 1 8)) .gp 0 &&
      goes (exec .mwait (bench.setReg 1 0)) (fun t => decide (t.activity = .active) && decide (t.rip = 0x1005)) &&
      goes (exec .mwait { bench with monitor := .armed 0x4000 64 }) (fun t => decide (t.activity = .mwait false false false))) = true := by decide +kernel

/-- V54. -/
theorem test_prefetch :
    goes (exec (.prefetchit0 ⟨none, false, .ripRel 0x1000⟩) { bench with nextRip := 0x800000000000 })
      fun t => decide (t.rip = 0x800000000000) = true := by decide +kernel

/-- A LAM machine at CPL 3: CR3 bit 61 or 62, CR4.LAM_SUP, CR4.LA57. -/
def lamBench (u57 u48 sup la57 : Bool) : State :=
  { bench with
    cr3 := (if u57 then 0x2000000000000000 else 0) ||| (if u48 then 0x4000000000000000 else 0)
    cr4 := (if sup then 0x10000000 else 0) ||| (if la57 then 0x1000 else 0) }

/-- V60. -/
theorem test_lam :
    lamCheckAndMask (lamBench false true false false) 0x7FFF000012345678 = some 0x12345678 ∧
    lamCheckAndMask (lamBench false true false false) 0x0000800000000000 = none ∧
    lamCheckAndMask (lamBench true false false true) 0x7E00123456789ABC = some 0x123456789ABC ∧
    lamCheckAndMask (lamBench true false false true) 0x7F00000000000000 = none ∧
    lamCheckAndMask (lamBench true false false false) 0x7E00000000001000 = some 0x1000 ∧
    lamCheckAndMask (lamBench true false false false) 0x7E00800000001000 = none ∧
    lamCheckAndMask (lamBench false false true true) 0xABFFFFFFFFFFF000 = some 0xFFFFFFFFFFFFF000 ∧
    lamCheckAndMask (lamBench false false true true) 0xAAFFFFFFFFFFF000 = none ∧
    lamCheckAndMask (lamBench false false true false) 0x8000800000000000 = some 0xFFFF800000000000 ∧
    lamCheckAndMask (lamBench false false true false) 0x8000000000000000 = none ∧
    lamCheckAndMask (lamBench true true false true) 0x7E00123456789ABC = some 0x123456789ABC ∧
    lamCheckAndMask (lamBench false false false false) 0x7FFF000012345678 = none := by decide +kernel

/-- V61: LASS. -/
theorem test_lass :
    (raises (exec (.aadd32 atRbx 0) { bench.setReg 3 0xFFFF800000001000 with cpl := 3, cr4 := 0x8000000 }) .gp 0 &&
      raises (exec .rdmsrlist { listBench 1 with cr4 := 0x8200000 }) .gp 0 &&
      goes (exec .rdmsrlist { listBench 1 with cr4 := 0x8200000, rflags := 0x40002 }) (fun t => decide (t.reg 1 = 0)) &&
      raises (exec (.urdmsrImm 0 0x1B00) { userBench 1 0 with cr4 := 0x8240000, rflags := 0x40002 }) .gp 0) = true := by
  decide +kernel

/-- The opcode-table word of AADD is fetched and run by the first step after reset (log 4): its address form is [RAX],
and RAX is 0. -/
theorem test_step_runs_table_word :
    goes (step (State.reset.withFetchWord 40 0x000F38FC00)) (fun t => decide (t.rao = [⟨.add, 0, 4, 0⟩])) = true := by
  decide +kernel

/-- An instruction that ends at FFFFFFFFFFFFFFFFH leaves RIP wrapped, and the next fetch is #GP(0) (10_state R25). -/
theorem test_wrapped_rip :
    (goes (exec (.prefetchnta atRsi) { bench with rip := 0xFFFFFFFFFFFFFFFB, nextRip := 0 }) (fun t => t.ripWrapped) &&
      raises (step { State.reset.withFetchWord 40 0x000F38FC00 with ripWrapped := true }) .gp 0) = true := by
  decide +kernel

/-! ## Witnesses: a state and operands that meet the hypotheses of each statement -/

/-- The outcome is the next state, whatever it is. -/
abbrev completes (o : Host.Outcome State Fault Refusal) : Bool := goes o fun _ => true

/-- The boundary of `s` answers a state with the property. -/
def passes (s : State) (p : State → Bool) : Bool :=
  match boundary s with
  | .ok t => p t
  | .error _ => false

/-- AADD [RAX],EAX is where the first step after reset fetches. -/
def firstStep : State := State.reset.withFetchWord 40 0x000F38FC00

/-- `bench` at CPL 3. -/
def userMode : State := { bench with cpl := 3 }

/-- `bench` with RSI = `a`. -/
def rsiBench (a : QWord) : State := bench.setReg 6 a

/-- The platform without the flexible update of UIF. -/
def plainUif : Platform :=
  { resetPlatform with
    cpuid := resetPlatform.cpuid.map fun r =>
      if r.leaf = 7 ∧ r.sub = some 1 then { r with edx := r.edx &&& ~~~0x20000 } else r }

/-- The platform whose leaf 05H does not report monitorless MWAIT, while CPUID.(7,1):EDX[23] does. -/
def noLeaf5 : Platform :=
  { resetPlatform with cpuid := resetPlatform.cpuid.map fun r => if r.leaf = 5 then { r with ecx := 3 } else r }

/-- 40_cpuid R196, 49 R476, 70_reset R583: a processor on which only CPUID.(7,1):EDX[23] reports monitorless MWAIT. -/
theorem test_monitorless_gate :
    let s := bench.setReg 1 4
    (raises (exec .mwait { s with platform := noLeaf5 }) .gp 0 &&
      raises (exec .mwait { s with platform := { noLeaf5 with monitorlessGate := .leaf5 } }) .gp 0 &&
      completes (exec .mwait { s with platform := { noLeaf5 with monitorlessGate := .leaf7 } }) &&
      completes (exec .mwait { s with platform := { noLeaf5 with monitorlessGate := .either } })) = true := by decide +kernel

/-- The tables of V33 with a data breakpoint for writes at 5000H, the first entry of the data table, that is a trace input or
not. -/
def watchedLists (mask : QWord) (log : Bool := false) : State :=
  { listBench mask with dr0 := 0x5000, dr7 := 0x90401 ||| (if log then 0x100000000 else 0) }

/-- 44 R294: a trap after an entry leaves RIP at the instruction and RCX with the bit of that entry clear; a match that is
a trace input goes on from there. -/
theorem test_list_trap :
    (goes (exec .rdmsrlist (watchedLists 5)) (fun t => decide (t.reg 1 = 4) && decide (t.rip = 0x1000) && t.midList) &&
      goes (noteMatches .rdmsrlist (watchedLists 5) (exec .rdmsrlist (watchedLists 5))) (fun t =>
        decide (t.matched = [0]) && (match boundary t with
          | .error (.delivered (.exception .db) u) => decide (u.rip = 0x1000) && decide (u.reg 1 = 4)
          | _ => false)) &&
      goes (exec .rdmsrlist (watchedLists 5 true)) (fun t =>
        passes { t with matched := [0] } fun u => decide (u.rip = 0x1000) && goes (exec .rdmsrlist u) fun v =>
          decide (v.reg 1 = 0) && decide (v.rip = 0x1005))) = true := by decide +kernel

/-- 60 R502: another processor's write of IA32_QoS_Core_BW_Thrtl_1 is seen where the scope is not the logical processor. -/
theorem test_throttle_scope :
    let shared := { resetPlatform with
      cpuid := resetPlatform.cpuid.map fun r => if r.leaf = 0x10 ∧ r.sub = some 5 then { r with eax := 0x20A } else r }
    (match onEvent bench (.throttle 1 7), onEvent { bench with platform := shared } (.throttle 1 7) with
      | .ok t, .ok u => decide (Store.get 0 0xE01 t.msrs = 0) && decide (Store.get 0 0xE01 u.msrs = 7)
      | _, _ => false) = true := by decide +kernel

/-- `bench` with TME-MK active with 15 KeyIDs and 64 TSE keys, before a boundary with the events. -/
def keyEvents (events : List Event) : State :=
  { bench with msrs := [(0x982, 0x1000400000003), (0x9F1, 0x40000000001)], env := { resetEnv with events := [events] } }

/-- 10_state R70: another processor programs no KeyID outside a table, and no algorithm that is not supported. -/
theorem test_foreign_keys :
    passes (keyEvents [.tseKey 64 ⟨.encrypt, 1, 5, 6⟩, .tseKey 0 ⟨.encrypt, 1, 5, 6⟩, .tseKey 1 ⟨.encrypt, 2, 5, 6⟩,
        .tmeKey 16 ⟨.encrypt, 1, 5, 6⟩, .tmeKey 0 .noEncrypt])
      (fun t => decide (t.tseKeys = []) && decide (t.tmeKeys = [])) = true := by decide +kernel

/-- 93 U3 against 30_encoding R145: the register form of PREFETCHIT1, as the platform has it. -/
theorem test_register_hint :
    (raises (step (State.reset.withFetchWord 24 0x0F18F6)) .ud 0 &&
      goes (step { State.reset.withFetchWord 24 0x0F18F6 with platform := { resetPlatform with registerHintUd := false } })
        (fun t => decide (t.rip = 0xFFF3))) = true := by decide +kernel

/-- MWAIT writes no flag, no memory and no MSR. -/
theorem kinds_of_mwait : ¬ writesFlags .mwait ∧ ¬ storesMemory .mwait ∧ ¬ writesMsr .mwait := by
  have h : ¬ isCmpcc .mwait := by
    rintro ⟨c, wide, m, a, b, h⟩
    cases c <;> cases wide <;> cases h
  refine ⟨?_, ?_, ?_⟩
  · rintro (h' | h' | h' | h')
    · exact h h'
    all_goals cases h'
  · rintro (h' | h' | h' | h')
    · exact h h'
    all_goals cases h'
  · rintro (h' | h' | ⟨a, b, h'⟩ | ⟨imm, b, h'⟩) <;> cases h'

/-- The tables of V33 in a guest, which may read IA32_USER_MSR_CTL but not IA32_UINTR_TIMER, nor write either. -/
def guestLists (mask : QWord) : State :=
  { listBench mask with
    vmx := .nonRoot
    vmcs := { resetVmcs with
      useMsrBitmaps := true, readLow := [0x1B00], writeLow := [0x1C, 0x1B00], enableMsrList := true, enablePconfig := true
      pconfigExiting := 1, mwaitExiting := true, saveSpecCtrl := true, loadHostSpecCtrl := true, hostSpecCtrl := 1 } }

/-- The prefetch hint writes no user MSR. -/
theorem kinds_of_prefetch : ¬ isUwrmsr (.prefetchnta atRsi) := by
  rintro (⟨a, b, h'⟩ | ⟨imm, b, h'⟩) <;> cases h'

/-- What PbndkbResult asks of the input structure. -/
def bindInputLegal (s : State) (ctrl : Nat) : Bool :=
  match memRead s (regPointer s rbx) 256 with
  | .ok tmp => decide (field tmp 160 1 = ctrl) && bindReservedZero tmp && zeroBytes tmp 0 16 && zeroBytes tmp 24 12
  | .error _ => false

/-- Breakpoint 1 is a data breakpoint at 4000H, breakpoint 0 a code breakpoint at RIP, each a trace input or not; trigger
unit 0 pauses on a match of DR1. -/
def debugBench (log : Bool) : State :=
  { bench with
    dr0 := 0x1000, dr1 := 0x4000, dr7 := 0x300405 ||| (if log then 0x300000000 else 0)
    msrs := [(0x568, 0x2103)] }

theorem witness_DecodeEncodeAgree :
    (Instr.aadd32 atRsi 0).wf = true := by decide +kernel

theorem witness_DecodedIsWellFormed :
    decode ⟨false, true⟩ [0x0F, 0xA2] = .instr .cpuid 2 := by decide +kernel

theorem witness_StepRunsDecodedInstruction :
    (passes firstStep (fun t => decide (t.activity = .active) && decide
        (decode (decodeCtx t) (fetchFrom t 15 0).1 = .instr (.aadd32 ⟨none, false, .sib (some 0) none 0 0⟩ 0) 4)) &&
      (Instr.aadd32 ⟨none, false, .sib (some 0) none 0 0⟩ 0).wf &&
      passes { bench with activity := .hlt } (fun t => decide (t.activity ≠ .active))) = true := by decide +kernel

theorem witness_StepKeepsInvariant :
    firstStep.Inv ∧ completes (step firstStep) = true := by unfold State.Inv pagedIn64; decide +kernel

theorem witness_StepKeepsModesAndTsc :
    completes (step firstStep) = true ∧
    passes { bench with env := { resetEnv with ticks := [5], events := [[]] } } (fun t => decide (t.tsc = 5)) = true := by decide +kernel

theorem witness_FlagsAndMemoryWrittenOnlyBy :
    completes (exec .mwait bench) = true ∧ ¬ writesFlags .mwait ∧ ¬ storesMemory .mwait ∧ ¬ writesMsr .mwait ∧
      noSerializingMsr bench := ⟨by decide +kernel, kinds_of_mwait.1, kinds_of_mwait.2.1, kinds_of_mwait.2.2, by unfold noSerializingMsr; decide +kernel⟩

theorem witness_KeyTablesWrittenOnlyByPconfig :
    completes (exec .cpuid bench) = true ∧ Instr.cpuid ≠ .pconfig ∧
      (∀ k ∈ [1, 63],
        let s := keyEvents [.tseKey k ⟨.encrypt, 1, 5, 6⟩]
        passes s fun t => decide (Store.get KeyEntry.unset k t.tseKeys ≠ Store.get KeyEntry.unset k s.tseKeys)) ∧
      ∀ k ∈ [1, 15],
        let s := keyEvents [.tmeKey k ⟨.encrypt, 1, 5, 6⟩]
        passes s fun t => decide (Store.get KeyEntry.unset k t.tmeKeys ≠ Store.get KeyEntry.unset k s.tmeKeys) := by
  decide +kernel

theorem witness_ControlStateNeverWritten :
    completes (exec .cpuid bench) = true := by decide +kernel

theorem witness_PrivilegedStateKept :
    completes (exec (.prefetchnta atRsi) userMode) = true ∧ userMode.cpl ≠ 0 ∧ userMode.mode ≠ .real ∧
      ¬ isUwrmsr (.prefetchnta atRsi) := ⟨by decide +kernel, by decide, by decide, kinds_of_prefetch⟩

theorem witness_ExceptionLeavesState :
    raises (exec .pbndkb userMode) .ud 0 = true ∧ Instr.pbndkb ≠ .rdmsrlist ∧
      Instr.pbndkb ≠ .wrmsrlist := by decide +kernel

theorem witness_ListPartialCompletion :
    (raises (exec .rdmsrlist (poke (listBench 7) 0x4008 8 0x100000010)) .gp 0 &&
      goes (exec .rdmsrlist (listBench 5)) (fun t => decide (t.reg 1 = 0)) &&
      goes (exec .rdmsrlist { listBench 5 with env := { resetEnv with events := [[.nmi]] } })
        (fun t => decide (t.reg 1 ≠ 0)) &&
      goes (exec .rdmsrlist { listBench 1 with env := { resetEnv with events := [[.nmi]] } })
        (fun t => decide (t.reg 1 = 0) && decide (t.rip = 0x1000)) &&
      (match exec .rdmsrlist (guestLists 5) with
        | .fault (.vmExit reason _ _ _ t) => decide (reason = 78) && decide (t.reg 1 = 4)
        | _ => false) &&
      anyMatch (watchedLists 7) (entryAccesses (watchedLists 7) true 0) && completes (exec .rdmsrlist (watchedLists 7)))
      = true := by decide +kernel

theorem witness_PrivilegeViolations :
    userMode.cpl ≠ 0 ∧ userMode.in64 = true ∧ userMode.vmx ≠ .nonRoot ∧ enumerated userMode .msrList = true ∧
      userMode.mode ≠ .real ∧ enumerated userMode .wrmsrns = true := by decide +kernel

theorem witness_VectorDisabled :
    State.reset.avxEnabled = false ∧ bench.avxEnabled = true ∧ enumerated bench .avx = true ∧
      (∀ f ∈ [Feature.vnniInt8, .vnniInt16, .avxIfma, .avxNeConvert, .sha512, .sm3, .sm4], enumerated bench f = true) ∧
      bench.in64 = true ∧ { bench with cr0 := 8 }.taskSwitched = true := by decide +kernel

theorem witness_UnconfiguredTilesRefused :
    bench.tilesConfigured = false := by decide +kernel

theorem witness_CpuidResult :
    bench.vmx ≠ .nonRoot := by decide +kernel

theorem witness_CpuidClearsHighHalves :
    completes (exec .cpuid bench) = true := by decide +kernel

theorem witness_RaoQueuesUpdate :
    enumerated (rsiBench 0x4000) .raoInt = true ∧
      ∀ wide : Bool, linearOf (rsiBench 0x4000) (memPointer (rsiBench 0x4000) atRsi) (formBytes wide) = .ok 0x4000 ∧
        access (rsiBench 0x4000) (memPointer (rsiBench 0x4000) atRsi) (formBytes wide) .write false
          (formBytes wide) gp0 = .ok (0x4000 :: paRange 0x4001 (formBytes wide - 1)) ∧
        writeBack (rsiBench 0x4000) ((rsiBench 0x4000).userAccess false) 0x4000 (paRange 0x4000 (formBytes wide)) = true := by decide +kernel

theorem witness_RaoUpdatePerformed :
    (poke bench 0x4000 4 0xFFFFFFFF).mem.wf = true ∧ (⟨.add, 0x4000, 8, 2⟩ : RaoUpdate).size ≤ 8 ∧
      0x4008 ∉ paRange 0x4000 8 ∧
      (let s := { bench with rao := [⟨.add, 0x4000, 8, 2⟩], env := { resetEnv with events := [[]], raoPicks := [[0]] } }
       s.env.raoPicks = [[0]] ∧ s.env.events = [[]] ∧ passes s fun t => decide (t.mem.read 0x4000 = 2)) := by decide +kernel

theorem witness_LockedAccessFaults_misaligned :
    ∀ wide : Bool, let s := { rsiBench 0x4001 with cpl := 3, cr0 := 0x40000, rflags := 0x40002 }
      linearOf s (memPointer s atRsi) (formBytes wide) = .ok 0x4001 ∧ lassData s false 0x4001 = true ∧
      (0x4001 : QWord).toNat % formBytes wide ≠ 0 ∧ enumerated s .raoInt = true ∧ enumerated s .cmpccxadd = true ∧
      s.in64 = true ∧ s.avxEnabled = true ∧ s.alignChecked = true := by decide +kernel

theorem witness_LockedAccessFaults_uc :
    ∀ gp checked : Bool,
      let s := { ucBench (if gp then 0x10 else 0) with
        cpl := if checked then 3 else 0, cr0 := 0x40000, rflags := 0x40002 }
      s.in64 = true ∧ enumerated s .cmpccxadd = true ∧ s.avxEnabled = true ∧ s.alignChecked = checked ∧
      linearOf s (memPointer s atRsi) 4 = .ok 0x4000 ∧
      access s (memPointer s atRsi) 4 .write false (if s.alignChecked then 4 else 1) (.exc .ac 0) = .ok (paRange 0x4000 4) ∧
      (Store.get 0 0x33 s.msrs).getLsbD 28 = true ∧ writeBack s (s.userAccess false) 0x4000 (paRange 0x4000 4) = false ∧
      (Store.get 0 0xCF s.msrs).getLsbD 4 = gp ∧ enumerated s .ucLockAc = true := by decide +kernel

theorem witness_LockedAccessFaults_split :
    let s := { rsiBench 0x403F with msrs := [(0x33, 0x20000000), (0xCF, 0x20)] }
    linearOf s (memPointer s atRsi) 4 = .ok 0x403F ∧ enumerated s .cmpccxadd = true ∧
      access s (memPointer s atRsi) 4 .write false (if s.alignChecked then 4 else 1) (.exc .ac 0) = .ok (paRange 0x403F 4) ∧
      (Store.get 0 0x33 s.msrs).getLsbD 29 = true ∧ (Store.get 0 0xCF s.msrs).getLsbD 5 = true ∧
      lineSize s < (0x403F : QWord).toNat % lineSize s + 4 ∧
      writeBack s (s.userAccess false) 0x403F (paRange 0x403F 4) = true := by decide +kernel

theorem witness_CmpccxaddResult :
    (rsiBench 0x4000).mem.wf = true ∧ (rsiBench 0x4000).in64 = true ∧ enumerated (rsiBench 0x4000) .cmpccxadd = true ∧
      (rsiBench 0x4000).avxEnabled = true ∧ ∀ wide : Bool, lockedAccess (rsiBench 0x4000) atRsi (formBytes wide) = .ok (paRange 0x4000 (formBytes wide)) := by decide +kernel

theorem witness_CompareConditions :
    8 ≤ 32 := by decide

theorem witness_PbndkbResult :
    ∀ random : Bool, let s := poke bindBench 0x100A0 1 random.toNat
      s.mem.wf = true ∧ enumerated s .pbndkb = true ∧ s.cpl = 0 ∧ s.in64 = true ∧ (s.reg rbx).toNat % 256 = 0 ∧
      (s.reg rcx).toNat % 256 = 0 ∧ s.reg rbx ≠ s.reg rcx ∧ bindInputLegal s random.toNat = true ∧
      access s (regPointer s rcx) 256 .write false 1 gp0 = .ok (paRange 0x10100 256) ∧ s.env.entropyShort = [] := by decide +kernel

theorem witness_BindUnwrapsToSameKeys :
    (List.replicate 256 (0 : Byte)).length = 256 := List.length_replicate

theorem witness_PconfigProgramsTmeKey :
    ∀ ck ∈ [(0, 1), (1, 1), (2, 1), (3, 0x7FFF), (3, 0), (3, 0x8000), (4, 1)], ∀ busy short : Bool,
      let s := { poke (poke (keyBench.setReg 0 0) 0x10000 2 ck.2) 0x10002 1 ck.1 with
        env := { resetEnv with lockBusy := [busy], entropyShort := if short then [true] else [] } }
      storesWf s = true ∧ enumerated s .pconfig = true ∧ s.cpl = 0 ∧ pconfigExits s 0 = false ∧ s.reg32 rax = 0 ∧
      pconfigTarget s 1 = true ∧ readKeyProgram s = .ok ⟨ck.2, ck.1, 1, 5, 6⟩ ∧ tmeMaxKey s = 0x7FFF ∧
      algorithmLegal 1 (tmeAlgorithms s) = true ∧ algorithmLegal 2 (tmeAlgorithms s) = false ∧ lockTaken s = busy ∧ entropyShort s = short := by decide +kernel

theorem witness_PconfigProgramsTseKey_leaf1 :
    ∀ ck ∈ [(0, 1), (1, 63), (1, 0), (1, 64), (2, 1)], ∀ busy : Bool, ∀ alg ∈ [1, 2],
      let s := { poke (poke (poke (keyBench.setReg 0 1) 0x10000 2 ck.2) 0x10002 1 ck.1) 0x10003 2 alg with
        env := { resetEnv with lockBusy := [busy] } }
      storesWf s = true ∧ enumerated s .pconfig = true ∧ s.cpl = 0 ∧ pconfigExits s 1 = false ∧ s.reg32 rax = 1 ∧
      pconfigTarget s 2 = true ∧ readKeyProgram s = .ok ⟨ck.2, ck.1, BitVec.ofNat 16 alg, 5, 6⟩ ∧
      tseMaxKeys s = 64 ∧ algorithmLegal (BitVec.ofNat 16 alg) (tseAlgorithms s) = decide (alg = 1) ∧
      lockTaken s = busy := by decide +kernel

theorem witness_PconfigProgramsTseKey_leaf2 :
    ∀ key ∈ [0, 63, 64],
      let s := (((keyBench.setReg 0 2).setReg 3 (0x1000000 + BitVec.ofNat 64 key)).setReg 1 0x20000)
      s.reg32 rax = 2 ∧ pconfigExits s 2 = false ∧ algorithmLegal 1 (tseAlgorithms s) = true ∧
      algorithmLegal 2 (tseAlgorithms s) = false ∧ (regPointer s rbx).off.extractLsb' 24 16 = 1 ∧
      (regPointer s rbx).off.toNat % 2 ^ 16 = key ∧ (regPointer s rcx).off.toNat % 256 = 0 ∧
      memRead s (regPointer s rcx) 256 = .ok (List.replicate 256 0) ∧
      bindReservedZero (List.replicate 256 0) = true := by decide +kernel

theorem witness_WrmsrnsResult :
    ∀ real : Bool, let s := { (bench.setReg 1 0x1C).setReg 2 0 with mode := if real then .real else .long64 }
      enumerated s .wrmsrns = true ∧ (s.cpl = 0 ∨ s.mode = .real) ∧ msrExits s true 0x1C = false ∧
      (s.reg rcx).toNat % 2 ^ 32 = 0x1C ∧ s.reg32 rdx ++ s.reg32 rax = (0 : QWord) ∧ wrmsrFaults s 0x1C 0 = false := by decide +kernel

theorem witness_MsrAliasesShareStorage :
    storesWf bench = true ∧ bench.pmuRunning = false ∧ legacyGp bench 0 = true ∧ legacyGp bench 7 = true ∧
      legacyGp bench 8 = false ∧ legacyFixed bench 6 = true ∧ legacyFixed bench 7 = false ∧
      canonMsr bench 0x1B00 ≠ 0xC0000080 ∧ (canonMsr bench 0x10 ≠ 0x10 ∨ bench.vmx ≠ .nonRoot) := by decide +kernel

theorem witness_RdmsrlistEntry :
    ∀ i ∈ [0, 63],
      let s := poke (listBench (BitVec.twoPow 64 i)) (0x4000 + 8 * i) 8 0x1C
      s.mem.wf = true ∧ s.in64 = true ∧ enumerated s .msrList = true ∧ s.vmx ≠ .nonRoot ∧ s.cpl = 0 ∧
        (s.reg rsi).toNat % 8 = 0 ∧ (s.reg rdi).toNat % 8 = 0 ∧ s.env.loadAhead = [] ∧ s.env.events = [] ∧
        s.reg rcx = BitVec.twoPow 64 i ∧ readEntry s rsi i = .ok 0x1C ∧ canonMsr s 0x1C ≠ 0x10 ∧ rdmsrFaults s 0x1C = false ∧
        countsFreely s 0x1C = false ∧
        access s ⟨s.reg rdi + BitVec.ofNat 64 (8 * i), .ds⟩ 8 .write false 1 gp0 = .ok (paRange (0x5000 + 8 * i) 8) ∧
        anyMatch s (entryAccesses s true i) = false ∧
        (listBench 0).reg rcx = 0 := by decide +kernel

theorem witness_WrmsrlistEntry :
    ∀ i ∈ [0, 63],
      let s := poke (listBench (BitVec.twoPow 64 i)) (0x4000 + 8 * i) 8 0x1C
      s.in64 = true ∧ enumerated s .msrList = true ∧ s.vmx ≠ .nonRoot ∧ s.cpl = 0 ∧ s.env.loadAhead = [] ∧
        s.env.events = [] ∧ s.reg rcx = BitVec.twoPow 64 i ∧ readEntry s rsi i = .ok 0x1C ∧ readEntry s rdi i = .ok 0 ∧
        wrmsrFaults s 0x1C 0 = false ∧ anyMatch s (entryAccesses s false i) = false := by decide +kernel

theorem witness_UrdmsrResult :
    let s := userBench 1 0
    s.in64 = true ∧ enumerated s .userMsr = true ∧ (Store.get 0 0x1C s.msrs).getLsbD 0 = true ∧
      readSupervisorByte s ((Store.get 0 0x1C s.msrs &&& ~~~(0xFFF : QWord)) + BitVec.ofNat 64 (0x1B00 / 8)) = .ok 1 ∧
      userMsrExits s false 0x1B00 = false ∧ s.avxEnabled = true ∧ rdmsrFaults s 0x1B00 = false ∧ countsFreely s 0x1B00 = false := by decide +kernel

theorem witness_UwrmsrResult :
    let s := userBench 0 1
    s.in64 = true ∧ enumerated s .userMsr = true ∧ (Store.get 0 0x1C s.msrs).getLsbD 0 = true ∧
      readSupervisorByte s ((Store.get 0 0x1C s.msrs &&& ~~~(0xFFF : QWord)) + BitVec.ofNat 64 (2048 + 0x1B00 / 8)) =
        .ok 1 ∧
      0x1B00 ∈ s.platform.userMsrWritable ∧ userMsrExits s true 0x1B00 = false ∧ s.avxEnabled = true ∧ wrmsrFaults s 0x1B00 0 = false := by decide +kernel

theorem witness_UserMsrDenied :
    let s := poke (userBench 1 1) 0x3007FF 1 0x80
    bench.in64 = true ∧ enumerated bench .userMsr = true ∧ (Store.get 0 0x1C bench.msrs).getLsbD 0 = false ∧
      (Store.get 0 0x1C s.msrs).getLsbD 0 = true ∧ 0x3FFF < (0x4000 : DWord).toNat ∧ s.avxEnabled = true ∧
      { bench with xcr0 := 1 }.avxEnabled = false ∧
      userMsrAddress (s.setReg 5 0x3FFF) 5 = 0x3FFF ∧ userMsrAddress (s.setReg 5 0x4000) 5 = 0x4000 ∧
      readSupervisorByte s (userBitmapByte s false 0x3FFE) = .ok 0x80 ∧ (0x80 : Byte).getLsbD (0x3FFE % 8) = false ∧
      readSupervisorByte s (userBitmapByte s true 0x3FFF) = .ok 0 ∧
      readSupervisorByte (poke s 0x300803 1 0x10) (userBitmapByte s true 0x1C) = .ok 0x10 ∧
      (0x10 : Byte).getLsbD (0x1C % 8) = true ∧ 0x1C ∉ s.platform.userMsrWritable := by decide +kernel

/-- The sources of DotProductBytes, DotProductWords, MultiplyAdd52, NeConvertEvenOdd, NeConvertToBf16, Sm3Result and
Sm4Result. -/
theorem witness_vector_sources :
    ∀ wide : Bool, rmSource bench (.reg 3) (if wide then 32 else 16) = .ok 0 ∧
      rmSource (rsiBench 0x4000) (.mem atRsi) (if wide then 32 else 16) = .ok 0 := by decide +kernel

/-- Their enables, and those of NeBroadcastResult and Sha512Result. -/
theorem witness_vector_enables :
    vexReady bench [.vnniInt8] ∧ vexReady bench [.vnniInt16] ∧ vexReady bench [.avxIfma] ∧
      vexReady bench [.avxNeConvert] ∧ vexReady bench [.avx, .sha512] ∧ vexReady bench [.avx, .sm3] ∧
      vexReady bench [.avx, .sm4] := by unfold vexReady; decide +kernel

theorem witness_NeBroadcastResult :
    memReadChecked (poke (rsiBench 0x4000) 0x4000 2 0x3F80) (memPointer (rsiBench 0x4000) atRsi) 2 =
      .ok [0x80, 0x3F] := by decide +kernel

theorem witness_Fp16ConversionExact :
    [(0 : BitVec 16), 1, 0x3FF, 0x8400, 0x7BFF].all (fun h => decide (h.toNat / 2 ^ 10 % 32 ≠ 31)) = true := by decide +kernel

theorem witness_Fp16ConversionExact_special :
    ([0x7C00, 0xFC00, 0x7C01, 0xFE00].all fun h : BitVec 16 => decide (h.toNat / 2 ^ 10 % 32 = 31)) = true ∧
      (0x7C00 : BitVec 16).toNat % 2 ^ 10 = 0 ∧ (0x7C01 : BitVec 16).toNat % 2 ^ 10 ≠ 0 := by decide +kernel

theorem witness_AmxResult :
    let s := tileBench 0 0 0
    let limits := paletteLimits s s.tilecfg.palette.toNat
    s.in64 = true ∧ enumerated s .amxFp16 = true ∧ enumerated s .amxComplex = true ∧ s.avxEnabled = true ∧
      s.xcr0.getLsbD 17 = true ∧ s.xcr0.getLsbD 18 = true ∧ s.taskSwitched = false ∧ s.tilesConfigured = true ∧
      (∀ x ∈ [(0 : RegNum), 1, 2], x.toNat < limits.names ∧ 1 ≤ s.tileRows x ∧ s.tileRows x ≤ limits.rows ∧
        1 ≤ s.tileColsb x ∧ s.tileColsb x ≤ limits.bytesPerRow ∧ s.tileColsb x % 4 = 0) ∧
      s.tileRows 0 = s.tileRows 1 ∧ s.tileColsb 0 = s.tileColsb 2 ∧ s.tileColsb 1 / 4 = s.tileRows 2 ∧
      s.tileColsb 2 ≤ tmulMaxN s ∧ s.tileRows 2 ≤ tmulMaxK s ∧ s.platform.amxReference = true := by decide +kernel

theorem witness_Fp32RoundExact :
    2 ^ 23 ≤ (2 ^ 23 : Int).natAbs ∧ (-(2 ^ 24 - 1) : Int).natAbs < 2 ^ 24 ∧ 253 ≤ 253 ∧
      fpUnits 0x3F800000 + fpUnits 0x40000000 = 12582912 * 2 ^ 127 ∧
      fpUnits 0x3F800000 * fpUnits 0x40000000 + fpUnits 0x3F800000 * 2 ^ 149 = 12582912 * 2 ^ (127 + 149) ∧
      fpExp 0x3F800000 ≠ 255 ∧ fpExp 0x40000000 ≠ 255 ∧ fpUnits 0x3F800000 + fpUnits 0xBF800000 = 0 := by decide +kernel

theorem witness_PrefetchOnlyAdvances :
    Instr.prefetchit0 atRsi ∈ [Instr.prefetchnta atRsi, .prefetcht0 atRsi, .prefetcht1 atRsi, .prefetcht2 atRsi,
      .prefetchit1 atRsi, .prefetchit0 atRsi] := by decide +kernel

theorem witness_UiretResult :
    let s := frameBench 0x246 0x202
    s.in64 = true ∧ s.cr4.getLsbD 25 = true ∧ enumerated s .uintr = true ∧ uiretPop s 0 = .ok 0x401000 ∧
      uiretPop s 1 = .ok 0x246 ∧ uiretPop s 2 = .ok 0x8000 ∧ s.canonical 0x401000 = true ∧ lbrRecords s = false ∧
      lbrRecords { s with msrs := [(0x14CE, 0x400005)] } = true ∧ lbrDepth s = 4 := by decide +kernel

theorem witness_UiretFlagBits :
    completes (exec .uiret (frameBench 0xFFFFFFFFFFFFFFFF 0x3202)) = true := by decide +kernel

theorem witness_FlexibleUif :
    (completes (exec .uiret (frameBench 0x244 0x202)) && enumerated (frameBench 0x244 0x202) .uiretUif &&
      goes (exec .uiret { frameBench 0x244 0x202 with platform := plainUif }) (fun t => t.uif) &&
      !enumerated { frameBench 0x244 0x202 with platform := plainUif } .uiretUif) = true := by decide +kernel

theorem witness_MwaitResult :
    monitorEnabled bench = true ∧ enumerated bench .monitor = true ∧ bench.cpl = 0 ∧ bench.vmx ≠ .nonRoot ∧
      bench.monitor = .idle ∧ bench.reg32 rcx = 0 ∧ { bench with monitor := .armed 0x4000 64 }.monitor = .armed 0x4000 64 ∧
      (bench.setReg 1 4).reg32 rcx = 4 ∧ enumerated bench .monitorlessMwait = true ∧ enumerated bench .mwait = true ∧
      bench.platform.monitorlessGate = .both ∧ bench.env.monitorLost = [] ∧
      enumerated { bench with platform := noLeaf5 } .monitorlessMwait = false ∧
      monitorEnabled { bench with platform := noLeaf5 } = true := by decide +kernel

theorem witness_LassStopsUserData :
    let s := { bench with cpl := 3, cr4 := 0x8000000 }
    s.cr4.getLsbD 27 = true ∧ s.in64 = true ∧ s.cpl = 3 ∧
      linearOf s ⟨0xFFFF800000000000, .ss⟩ 8 = .ok 0xFFFF800000000000 ∧ linearOf s ⟨0x7FFFFFFFFFF8, .ds⟩ 8 = .ok 0x7FFFFFFFFFF8 := by decide +kernel

theorem witness_LamGivesCanonical :
    lamCheckAndMask (lamBench true false false true) 0x7E00123456789ABC = some 0x123456789ABC ∧
      lamCheckAndMask (lamBench false true false true) 0x7FFF000012345678 = some 0x12345678 ∧
      lamCheckAndMask (lamBench false false true true) 0xABFFFFFFFFFFF000 = some 0xFFFFFFFFFFFFF000 ∧
      lamCheckAndMask (lamBench false false true false) 0x8000800000000000 = some 0xFFFF800000000000 := by decide +kernel

theorem witness_UserTimerOnlyAtCpl3 :
    passes { bench with userTimer := ⟨0, 5, true⟩, env := { resetEnv with events := [[.userTimer]] } }
      (fun t => t.userTimer.pending) = true ∧
    (∀ uif : Bool, let s := { userMode with userTimer := ⟨0, 5, true⟩, uif := uif }
     s.cpl = 3 ∧ s.userTimer.pending = true ∧ s.uif = uif ∧ s.cr4.getLsbD 25 = true ∧ s.env.events = [] ∧
       s.vmx ≠ .nonRoot ∧ s.matched = [] ∧ passes s (fun t => decide (t.uirr = 0x20)) = !uif) := by decide +kernel

theorem witness_GuestTimerProcessed :
    let s := { bench with vmx := .nonRoot, guestTimer := ⟨true, 0x100, 0x100, 0x30, 0, 0, true⟩ }
    s.vmx = .nonRoot ∧ s.guestTimer.control = true ∧ s.guestTimer.pending = true ∧ s.enclave = false := by decide +kernel

theorem witness_DebugMatch :
    ∀ log : Bool, let s := debugBench log
      breakEnabled s 1 = true ∧ breakKind s 1 = 3 ∧ breakEnabled s 2 = false ∧
      s.dr7.getLsbD (s.platform.trace.debugLogBit + 1) = log ∧ s.dr7.getLsbD s.platform.trace.debugLogBit = log ∧
      storesWf s = true ∧ (cpuidQuery s 0x14 1).eax.toNat / 2 ^ 8 % 8 = 2 ∧
      triggerInput s 0 = some (.debugMatch 1) ∧ (triggerCfg s 0).getLsbD 1 = true ∧ codeMatch s 0 = true ∧
      ([0x3FF8, 0x3FF9, 0x4000, 0x4001].map fun a => dataMatches (s.setReg 6 a) s (.cmpoxadd64 atRsi 0 0)) =
        [[], [1], [1], []] ∧
      (match onMatches [1] s with
        | .ok t => log && (Store.get 0 0x571 t.msrs).getLsbD 8
        | .error (.delivered d _) => !log && decide (d = .exception .db)
        | _ => false) = true := by decide +kernel

/-- 60 R565: of two breakpoints on one address the one that is a trigger acts, and the other is #DB. -/
theorem test_two_breakpoints :
    (match onMatches [0, 1] { debugBench false with dr7 := 0x200300405 } with
      | .error (.delivered d t) => decide (d = .exception .db) && (Store.get 0 0x571 t.msrs).getLsbD 8
      | _ => false) = true := by decide +kernel

/-- A step keeps the data breakpoint its access matched, and the next boundary takes it. -/
theorem test_data_breakpoint :
    (match step ({ debugBench true with dr0 := 0, dr7 := 0x200300404 }.setReg 6 0x4000 |> fun s =>
        poke s 0x1000 4 0x06FC380F) with
      | .next t => decide (t.matched = [1]) && passes t fun u => (Store.get 0 0x571 u.msrs).getLsbD 8
      | _ => false) = true := by decide +kernel

theorem witness_VmExits :
    let s := guestLists 4
    let u := { userBench 1 1 with vmx := .nonRoot, vmcs := s.vmcs }
    s.vmx = .nonRoot ∧ enumerated s .pconfig = true ∧ s.cpl = 0 ∧ s.vmcs.pconfigExiting.getLsbD 0 = true ∧
      s.reg32 rax = 0 ∧ enumerated s .wrmsrns = true ∧ msrExits (s.setReg 1 0x1C) true 0x1C = true ∧ monitorEnabled s = false ∧
      monitorEnabled { s with msrs := resetMsrValues } = true ∧ enumerated s .mwait = false ∧
      enumerated { s with msrs := resetMsrValues } .mwait = true ∧ enumerated s .msrList = true ∧
      (s.reg rsi).toNat % 8 = 0 ∧ (s.reg rdi).toNat % 8 = 0 ∧ s.reg rcx = BitVec.twoPow 64 2 ∧
      readEntry s rsi 2 = .ok 0x1B00 ∧ readEntry s rdi 2 = .ok 0 ∧ msrExits s false 0x1B00 = true ∧
      msrExits s true 0x1B00 = true ∧ storesWf s = true ∧
      (∀ write : Bool, readSupervisorByte u (userBitmapByte u write 0x1B00) = .ok 1 ∧ userMsrExits u write 0x1B00 = true ∧
        u.in64 = true ∧ enumerated u .userMsr = true ∧ u.avxEnabled = true ∧ (Store.get 0 0x1C u.msrs).getLsbD 0 = true) := by decide +kernel

theorem witness_VmExits_ept :
    ∀ wide : Bool,
      let s := { rsiBench 0x4000 with
        vmx := .nonRoot, platform := { resetPlatform with translation := [⟨0, 4, .write, false, .eptViolation 2⟩] } }
      enumerated s .raoInt = true ∧ linearOf s (memPointer s atRsi) (formBytes wide) = .ok 0x4000 ∧
      lassData s false 0x4000 = true ∧ (0x4000 : QWord).toNat % formBytes wide = 0 ∧
      translatePage s .write (s.userAccess false) ((0x4000 : QWord).toNat / 4096) = .eptViolation 2 := by decide +kernel

end Sys2Proof.Tests
end

/-! ## One step -/

namespace Sys2Proof.Machine

/-- Bytes that decode to an instruction are fetched as that instruction: the bytes past its end, fetched or not, play no
part. -/
theorem fetchDecode_of_decode {t : State} {i : Instr} {n : Nat}
    (hdec : decode (decodeCtx t) (fetchFrom t 15 0).1 = .instr i n) : fetchDecode t = .instr i n := by
  simp only [fetchDecode, hdec]

theorem runFetched_of_fetchDecode {t : State} {i : Instr} {n : Nat} (hfetch : fetchDecode t = .instr i n) :
    runFetched t = noteMatches i (t.withNext n) (exec i (t.withNext n)) := by
  simp only [runFetched, hfetch]

theorem step_of_waiting {s t : State} (hb : boundary s = .ok t) (hact : t.activity ≠ .active) : step s = .next t := by
  simp only [step, hb, if_neg hact]

theorem step_of_active {s t : State} (hb : boundary s = .ok t) (hact : t.activity = .active) :
    step s = runFetched t := by
  simp only [step, hb, if_pos hact]

/-- A step past the boundary is the meaning of the decoded instruction, with its breakpoint matches noted. -/
theorem step_of_decode {s t : State} {i : Instr} {n : Nat} (hb : boundary s = .ok t) (hact : t.activity = .active)
    (hdec : decode (decodeCtx t) (fetchFrom t 15 0).1 = .instr i n) :
    step s = noteMatches i (t.withNext n) (exec i (t.withNext n)) :=
  (step_of_active hb hact).trans (runFetched_of_fetchDecode (fetchDecode_of_decode hdec))

/-- Noting the matches of an instruction keeps its fault. -/
theorem noteMatches_eq_fault {i : Instr} {s : State} {o : Host.Outcome State Fault Refusal} {f : Fault} :
    noteMatches i s o = .fault f ↔ o = .fault f := by
  cases o <;> simp [noteMatches]

/-- Noting the matches of an instruction keeps its refusal. -/
theorem noteMatches_eq_refused {i : Instr} {s : State} {o : Host.Outcome State Fault Refusal} {x : Refusal} :
    noteMatches i s o = .refused x ↔ o = .refused x := by
  cases o <;> simp [noteMatches]

/-- Settles O5, by a case split on the activity state and then on the kind of outcome of the decoded instruction. That the
instruction is well-formed is not needed. -/
theorem stepRunsDecodedInstruction : Obligations.StepRunsDecodedInstruction := by
  unfold Obligations.StepRunsDecodedInstruction
  intro s t hb
  refine ⟨step_of_waiting hb, ?_⟩
  rintro hact i n u hdec - rfl
  have hstep : step s = noteMatches i (t.withNext n) (exec i (t.withNext n)) := step_of_decode hb hact hdec
  refine ⟨fun v hv => ?next, fun f hf => ?fault, fun x hx => ?refused⟩
  case next => exact hstep.trans (noteMatches_eq_next.mpr ⟨v, hv, rfl⟩)
  case fault => exact hstep.trans (noteMatches_eq_fault.mpr hf)
  case refused => exact hstep.trans (noteMatches_eq_refused.mpr hx)

end Sys2Proof.Machine

/-! ## Steps: elementary updates, and what they keep -/

namespace Sys2Proof.Machine

/-! ## What an instruction can do -/

/-- The part of the state that any instruction may change: registers, RIP, the queue of remote atomic updates, the monitor,
the environment's choices, the counts of retired instructions and of drawn values. -/
def sameSystem (s t : State) : Prop :=
  t = { s with
    gpr := t.gpr, rip := t.rip, ripWrapped := t.ripWrapped, uif := t.uif, vregs := t.vregs, tilecfg := t.tilecfg
    tiles := t.tiles, fixedCtr0 := t.fixedCtr0, monitor := t.monitor, midList := t.midList, rao := t.rao
    env := t.env, draws := t.draws }

/-- One elementary update that the instruction `i` may make. Every other instruction than those named makes only
updates of the kind `work`. -/
inductive InstrUpdate (i : Instr) (s : State) : State → Prop
  | work {t : State} (h : sameSystem s t) : InstrUpdate i s t
  | wait (hi : i = .mwait) (a : Activity) : InstrUpdate i s { s with activity := a }
  | flags (hi : writesFlags i) (f : QWord) (hf : rflagsLegal s.rflags = true → rflagsLegal f = true) :
      InstrUpdate i s { s with rflags := f }
  | store (hi : storesMemory i) (pas : List Nat) (bs : List Byte) : InstrUpdate i s (s.storeBytes pas bs)
  | drain (hi : storesMemory i) : InstrUpdate i s (raoDrain s)
  | msr (hi : writesMsr i) (a : Nat) (v : QWord) (hf : wrmsrFaults s a v = false) : InstrUpdate i s (msrWrite s a v)
  | sampleTsc (hi : i = .rdmsrlist) (v : QWord) (hv : s.tsc.toNat ≤ v.toNat) : InstrUpdate i s { s with tsc := v }
  | branchRecord (hi : i = .uiret) : InstrUpdate i s (lbrPush s)
  | tmeKey (hi : i = .pconfig) (k : Nat) (e : KeyEntry 512) : InstrUpdate i s (s.setTmeKey k e)
  | tseKey (hi : i = .pconfig) (k : Nat) (e : KeyEntry 256) : InstrUpdate i s (s.setTseKey k e)

/-- A sequence of elementary updates of the instruction `i`. -/
abbrev InstrUpdates (i : Instr) : State → State → Prop := Relation.ReflTransGen (InstrUpdate i)

section
variable {i : Instr} {s t u : State}

/-- What a sequence of checks returns. -/
theorem pure_eq_ok {α : Type} {a b : α} : (pure a : Except Stop α) = .ok b ↔ a = b := by
  simp [pure, Except.pure]

/-- Updates followed by work on the part any instruction may change. -/
theorem InstrUpdates.work (h : InstrUpdates i s t) (hw : sameSystem t u) : InstrUpdates i s u := h.tail (.work hw)

/-- An instruction that settles does what its effect does. -/
theorem InstrUpdates.of_settle {r : Except Stop State} (h : settle s r = .next t)
    (hr : ∀ u, r = .ok u → InstrUpdates i s u) : InstrUpdates i s t := by
  obtain ⟨u, hu, rfl⟩ := settle_eq_next.mp h
  exact (hr u hu).work rfl

/-- An instruction that settles, whose effect is confined to the part any instruction may change. -/
theorem InstrUpdates.of_settle_work {r : Except Stop State} (h : settle s r = .next t)
    (hr : ∀ u, r = .ok u → sameSystem s u) : InstrUpdates i s t :=
  .of_settle h fun u hu => .single (.work (hr u hu))

/-! ### Instructions of one shape -/

theorem vexOp_updates {fs : List Feature} {d : RegNum} {o : RM} {n : Nat} {f : Vec → Vec}
    (h : vexOp s fs d o n f = .next t) : InstrUpdates i s t := by
  refine .of_settle_work h fun u hu => ?_
  simp only [bind_eq_ok, pure_eq_ok] at hu
  obtain ⟨-, -, v, -, rfl⟩ := hu
  rfl

theorem vexRegOp_updates {fs : List Feature} {d : RegNum} {v : Vec} (h : vexRegOp s fs d v = .next t) :
    InstrUpdates i s t := by
  refine .of_settle_work h fun u hu => ?_
  simp only [bind_eq_ok, pure_eq_ok] at hu
  obtain ⟨-, -, rfl⟩ := hu
  rfl

theorem neBroadcast_updates {d : RegNum} {m : MemOp} {k : Nat} {f : BitVec 16 → DWord}
    (h : neBroadcast s d m k f = .next t) : InstrUpdates i s t := by
  refine .of_settle_work h fun u hu => ?_
  simp only [bind_eq_ok, pure_eq_ok] at hu
  obtain ⟨-, -, bs, -, rfl⟩ := hu
  rfl

theorem amxMultiply_updates {f : Feature} {op : AmxOp} {d a b : RegNum} (h : amxMultiply s f op d a b = .next t) :
    InstrUpdates i s t := by
  refine .of_settle_work h fun u hu => ?_
  simp only [bind_eq_ok, pure_eq_ok] at hu
  obtain ⟨-, -, rfl⟩ := hu
  rfl

theorem raoIssue_updates {op : RaoOp} {n : Nat} {m : MemOp} {src : QWord} (h : raoIssue op n m src s = .next t) :
    InstrUpdates i s t := by
  refine .of_settle_work h fun u hu => ?_
  simp only [bind_eq_ok, pure_eq_ok] at hu
  obtain ⟨-, -, la, -, pas, -, -, -, rfl⟩ := hu
  rfl

theorem hint_updates {m : MemOp} (h : hint m s = .next t) : InstrUpdates i s t := by
  cases h
  exact .single (.work rfl)

/-- Reading an MSR draws a free value at most. -/
theorem sameSystem_msrRead (s : State) (a : Nat) : sameSystem s (msrRead s a).2 := by
  unfold msrRead
  split <;> rfl

theorem urdmsr_updates {vex : Bool} {a : Nat} {dst : RegNum} (h : urdmsr vex a dst s = .next t) :
    InstrUpdates i s t := by
  refine .of_settle h fun u hu => ?_
  simp only [bind_eq_ok, pure_eq_ok] at hu
  obtain ⟨-, -, -, -, rfl⟩ := hu
  exact .work (.single (.work (sameSystem_msrRead s a))) rfl

theorem uwrmsr_updates (hi : isUwrmsr i) {vex : Bool} {a : Nat} {src : RegNum} (h : uwrmsr vex a src s = .next t) :
    InstrUpdates i s t := by
  refine .of_settle h fun u hu => ?_
  simp only [bind_eq_ok, need_eq_ok, pure_eq_ok, Bool.not_eq_true'] at hu
  obtain ⟨-, -, -, hf, rfl⟩ := hu
  exact .single (.msr (.inr (.inr hi)) a _ hf)

/-! ### Flags -/

/-- Values of RFLAGS that agree on bit 1 and the reserved bits are legal together. -/
theorem rflagsLegal_of_agree {f g : QWord} (h : g &&& 0xFFFFFFFFFFC0802A = f &&& 0xFFFFFFFFFFC0802A)
    (hf : rflagsLegal f = true) : rflagsLegal g = true := by
  rwa [rflagsLegal, h]

/-- Replacing bits of RFLAGS of which none is reserved keeps RFLAGS legal. -/
theorem rflagsLegal_merge {f g m : QWord} (hm : m &&& 0xFFFFFFFFFFC0802A = 0) (hg : g &&& ~~~m = 0)
    (hf : rflagsLegal f = true) : rflagsLegal ((f &&& ~~~m) ||| g) = true := by
  refine rflagsLegal_of_agree (BitVec.eq_of_getLsbD_eq fun j hj => ?_) hf
  have hmj := congrArg (BitVec.getLsbD · j) hm
  have hgj := congrArg (BitVec.getLsbD · j) hg
  simp only [BitVec.getLsbD_and, BitVec.getLsbD_or, BitVec.getLsbD_not, hj, decide_true,
    Bool.true_and] at hmj hgj ⊢
  revert hmj hgj
  cases m.getLsbD j <;> cases g.getLsbD j <;> simp_all

/-- A status flag stands at a bit of the status mask. -/
theorem Status.bits_subset (f : Status) : f.bits &&& ~~~statusMask = 0 := by
  obtain ⟨cf, pf, af, zf, sf, of⟩ := f
  revert cf pf af zf sf of
  decide

theorem rflagsLegal_withStatus {f : QWord} (g : Status) (hf : rflagsLegal f = true) :
    rflagsLegal (withStatus f g) = true := rflagsLegal_merge (by decide) g.bits_subset hf

theorem rflagsLegal_uiretFlags {f : QWord} (image : QWord) (hf : rflagsLegal f = true) :
    rflagsLegal (uiretFlags f image) = true := by
  refine rflagsLegal_merge (by decide) ?_ hf
  rw [BitVec.and_assoc, BitVec.and_not_self]
  exact BitVec.and_zero

/-! ### CMPccXADD, CPUID, UIRET and MWAIT -/

@[simp] theorem raoDrain_rflags (s : State) : (raoDrain s).rflags = s.rflags := by rw [raoDrain_frame]

theorem cmpccxadd_updates {w : Nat} {c : Cond} {wide : Bool} {m : MemOp} {a b : RegNum}
    (h : cmpccxadd w c m a b s = .next t) (hi : i = cmpccInstr c wide m a b) : InstrUpdates i s t := by
  have hc : isCmpcc i := ⟨c, wide, m, a, b, hi⟩
  refine .of_settle h fun u hu => ?_
  simp only [bind_eq_ok, pure_eq_ok] at hu
  obtain ⟨-, -, pas, -, rfl⟩ := hu
  have hdrain : InstrUpdates i s (raoDrain s) := .single (.drain (.inl hc))
  have hstore (bs : List Byte) : InstrUpdates i s ((raoDrain s).storeBytes pas bs) :=
    hdrain.tail (.store (.inl hc) pas bs)
  have hreg (bs : List Byte) (v : QWord) : InstrUpdates i s (((raoDrain s).storeBytes pas bs).setReg a v) :=
    (hstore bs).work rfl
  exact (hreg _ _).tail (.flags (.inl hc) _ fun hf => rflagsLegal_withStatus _ (by simpa using hf))

theorem execCpuid_updates (h : execCpuid s = .next t) : InstrUpdates .cpuid s t := by
  refine .of_settle h fun u hu => ?_
  simp only [bind_eq_ok, pure_eq_ok] at hu
  obtain ⟨-, -, rfl⟩ := hu
  exact .work (.single (.drain (.inr (.inr (.inr rfl))))) rfl

/-- UIRET completes with a record of the branch and the frame's values. -/
theorem execUiret_eq_next (h : execUiret s = .next t) :
    ∃ newRip image newRsp : QWord, t = (uiretEffect image newRsp (lbrPush s)).retireTo newRip := by
  unfold execUiret at h
  simp only at h
  split at h
  next newRip image newRsp _ => exact ⟨newRip, image, newRsp, by cases h; rfl⟩
  next x _ => exact absurd h (raise_ne_next x s t)

theorem execUiret_updates (h : execUiret s = .next t) : InstrUpdates .uiret s t := by
  obtain ⟨newRip, image, newRsp, rfl⟩ := execUiret_eq_next h
  have hrecord : InstrUpdates .uiret s (lbrPush s) := .single (.branchRecord rfl)
  exact .work (hrecord.tail (.flags (.inr (.inl rfl)) _ (rflagsLegal_uiretFlags image))) rfl

/-- MWAIT goes on or waits; of the rest it touches the monitor and the environment's choices alone. -/
theorem execMwait_updates (h : execMwait s = .next t) : InstrUpdates .mwait s t := by
  refine .of_settle h fun u hu => ?_
  simp only [bind_eq_ok, pure_eq_ok] at hu
  obtain ⟨-, -, rfl⟩ := hu
  have hwait : ∀ u, sameSystem { s with activity := u.activity } u → InstrUpdates .mwait s u := fun u hu =>
    .work (.single (.wait rfl u.activity)) hu
  apply hwait
  unfold mwaitMonitorless mwaitMonitored
  split
  · split <;> rfl
  · split <;> rfl

/-! ### PBNDKB and PCONFIG -/

theorem keyFailure_updates (hi : writesFlags i) (reason : QWord) (h : InstrUpdates i s t) :
    InstrUpdates i s (keyFailure reason t) :=
  (h.work (u := t.setReg rax reason) rfl).tail (.flags hi _ (rflagsLegal_withStatus _))

theorem keySuccess_updates (hi : writesFlags i) (h : InstrUpdates i s t) : InstrUpdates i s (keySuccess t) :=
  (h.work (u := t.setReg rax 0) rfl).tail (.flags hi _ (rflagsLegal_withStatus _))

/-- One random value is drawn. -/
theorem InstrUpdates.draw (h : InstrUpdates i s t) : InstrUpdates i s t.dropEntropy.drew := h.work rfl

/-- Choosing the keys of PBNDKB uses up choices of the environment at most. -/
theorem sameSystem_bindKeys (tmp : List Byte) (s : State) : sameSystem s (bindKeys tmp s).2 := by
  unfold bindKeys
  simp only
  split
  · split <;> rfl
  · rfl

theorem bindEffect_updates (tmp : List Byte) (pas : List Nat) (s : State) :
    InstrUpdates .pbndkb s (bindEffect tmp pas s) := by
  have hflags : writesFlags .pbndkb := .inr (.inr (.inl rfl))
  have hkeys := sameSystem_bindKeys tmp s
  unfold bindEffect
  split
  next v hv =>
    rw [hv] at hkeys
    exact keyFailure_updates hflags 2 (.single (.work hkeys))
  next keys v hv =>
    rw [hv] at hkeys
    have hdraw : InstrUpdates .pbndkb s v := .single (.work hkeys)
    split
    · exact keyFailure_updates hflags 2 (hdraw.work rfl)
    · exact keySuccess_updates hflags (hdraw.draw.tail (.store (.inr (.inl rfl)) pas _))

theorem execPbndkb_updates (h : execPbndkb s = .next t) : InstrUpdates .pbndkb s t := by
  refine .of_settle h fun u hu => ?_
  simp only [bind_eq_ok, pure_eq_ok] at hu
  obtain ⟨-, -, -, -, tmp, -, -, -, -, -, -, -, pas, -, rfl⟩ := hu
  exact bindEffect_updates tmp pas s

theorem writesFlags_pconfig : writesFlags .pconfig := .inr (.inr (.inr rfl))

theorem tmeRandomKey_updates (p : KeyProgram) (h : InstrUpdates .pconfig s t) :
    InstrUpdates .pconfig s (tmeRandomKey p t) := by
  have hdrop {u : State} (hu : InstrUpdates .pconfig s u) : InstrUpdates .pconfig s u.dropEntropy := hu.work rfl
  unfold tmeRandomKey
  simp only
  split
  · exact keyFailure_updates writesFlags_pconfig 2 (hdrop h)
  split
  · exact keyFailure_updates writesFlags_pconfig 2 (hdrop h.draw)
  · exact keySuccess_updates writesFlags_pconfig (h.draw.draw.tail (.tmeKey rfl _ _))

/-- Leaf 0 of PCONFIG programs one entry of the TME-MK table, or none. -/
theorem tmeProgram_updates (p : KeyProgram) (h : InstrUpdates .pconfig s t) :
    InstrUpdates .pconfig s (tmeProgram p t) := by
  have hprogram (e : KeyEntry 512) : InstrUpdates .pconfig s (keySuccess (t.setTmeKey p.keyId e)) :=
    keySuccess_updates writesFlags_pconfig (h.tail (.tmeKey rfl _ _))
  unfold tmeProgram
  split
  · exact hprogram _
  · exact tmeRandomKey_updates p h
  · exact hprogram _
  · exact hprogram _

theorem dropLock_updates (s : State) : InstrUpdates i s s.dropLock := .single (.work rfl)

theorem pconfigTme_updates (h : pconfigTme s = .ok t) : InstrUpdates .pconfig s t := by
  simp only [pconfigTme, bind_eq_ok] at h
  obtain ⟨p, -, h⟩ := h
  split at h
  · cases h; exact keyFailure_updates writesFlags_pconfig 1 .refl
  split at h
  · cases h; exact keyFailure_updates writesFlags_pconfig 3 .refl
  simp only [bind_eq_ok, pure_eq_ok] at h
  obtain ⟨-, -, rfl⟩ := h
  split
  · exact keyFailure_updates writesFlags_pconfig 5 (dropLock_updates s)
  · exact tmeProgram_updates p (dropLock_updates s)

theorem pconfigTse_updates (h : pconfigTse s = .ok t) : InstrUpdates .pconfig s t := by
  simp only [pconfigTse, bind_eq_ok] at h
  obtain ⟨p, -, h⟩ := h
  split at h
  · cases h; exact keyFailure_updates writesFlags_pconfig 1 .refl
  split at h
  · cases h; exact keyFailure_updates writesFlags_pconfig 3 .refl
  simp only [bind_eq_ok, pure_eq_ok] at h
  obtain ⟨-, -, rfl⟩ := h
  split
  · exact keyFailure_updates writesFlags_pconfig 5 (dropLock_updates s)
  · exact keySuccess_updates writesFlags_pconfig ((dropLock_updates s).tail (.tseKey rfl _ _))

theorem pconfigWrapped_updates (h : pconfigWrapped s = .ok t) : InstrUpdates .pconfig s t := by
  simp only [pconfigWrapped, bind_eq_ok] at h
  obtain ⟨-, -, -, -, bs, -, -, -, h⟩ := h
  split at h
  · cases h; exact keyFailure_updates writesFlags_pconfig 3 .refl
  split at h
  · cases h; exact keyFailure_updates writesFlags_pconfig 5 (dropLock_updates s)
  cases h
  split
  · exact keyFailure_updates writesFlags_pconfig 7 (dropLock_updates s)
  · exact keySuccess_updates writesFlags_pconfig ((dropLock_updates s).tail (.tseKey rfl _ _))

theorem execPconfig_updates (h : execPconfig s = .next t) : InstrUpdates .pconfig s t := by
  refine .of_settle h fun u hu => ?_
  simp only [bind_eq_ok] at hu
  obtain ⟨-, -, -, -, -, -, hu⟩ := hu
  split at hu
  · exact pconfigTme_updates hu
  split at hu
  · exact pconfigTse_updates hu
  · exact pconfigWrapped_updates hu

/-! ### MSRs and their lists -/

theorem execWrmsrns_updates (h : execWrmsrns s = .next t) : InstrUpdates .wrmsrns s t := by
  refine .of_settle h fun u hu => ?_
  simp only [bind_eq_ok, need_eq_ok, pure_eq_ok, Bool.not_eq_true'] at hu
  obtain ⟨-, -, -, -, -, -, -, hf, rfl⟩ := hu
  exact .single (.msr (.inl rfl) _ _ hf)

/-- What every iteration of a list keeps, and the steps between iterations, the list keeps. -/
theorem msrListLoop_induction {P : State → Prop} {kind : AccessKind}
    {body : Nat → LoadStates → QWord → State → Except Stop (QWord × State)}
    (hbody : ∀ i loads floor s floor' u, P s → body i loads floor s = .ok (floor', u) → P u)
    (hwork : ∀ s u, sameSystem s u → P s → P u) {n : Nat} {earlier : List State} {floor : QWord} (hs : P s)
    (h : msrListLoop kind body n earlier floor s = .next t) : P t := by
  induction n generalizing earlier floor s with
  | zero => cases h; exact hwork s s.retire rfl hs
  | succ n ih =>
    rw [msrListLoop] at h
    split at h
    · cases h; exact hwork s s.retire rfl hs
    simp only at h
    split at h
    · exact absurd h (raise_ne_next _ _ _)
    split at h
    · exact absurd h (raise_ne_next _ _ _)
    next floor' u hu =>
      have hPu : P u := hbody _ _ _ _ _ _ (hwork s s.dropLoadAhead rfl hs) hu
      split at h
      · cases h; exact hwork u u.pauseList rfl hPu
      · exact ih (hwork u u.dropQuiet rfl hPu) h

/-- Sampling an MSR draws free values, and lets the TSC go on. -/
theorem sampleMsr_updates (s : State) (floor : QWord) (a : Nat) :
    InstrUpdates .rdmsrlist s (sampleMsr s floor a).after := by
  unfold sampleMsr
  simp only
  split
  · exact .single (.work rfl)
  split
  · have hdrew : InstrUpdates .rdmsrlist s s.drew := .single (.work rfl)
    refine hdrew.tail (.sampleTsc rfl _ ?_)
    rw [State.drew_tsc]
    split
    next hlt => exact hlt.le
    next => exact le_rfl
  · exact .single (.work (sameSystem_msrRead s a))

theorem rdmsrEntry_updates {n : Nat} {loads : LoadStates} {floor floor' : QWord}
    (h : rdmsrEntry n loads floor s = .ok (floor', t)) : InstrUpdates .rdmsrlist s t := by
  simp only [rdmsrEntry, bind_eq_ok, pure_eq_ok, Prod.mk.injEq] at h
  obtain ⟨a, -, -, -, -, -, pas, -, -, rfl⟩ := h
  exact .work ((sampleMsr_updates s floor a).tail (.store (.inr (.inr (.inl rfl))) pas _)) rfl

theorem wrmsrEntry_updates {n : Nat} {loads : LoadStates} {floor floor' : QWord}
    (h : wrmsrEntry n loads floor s = .ok (floor', t)) : InstrUpdates .wrmsrlist s t := by
  simp only [wrmsrEntry, bind_eq_ok, need_eq_ok, pure_eq_ok, Prod.mk.injEq,
    Bool.not_eq_true'] at h
  obtain ⟨a, -, data, -, -, -, -, hf, -, rfl⟩ := h
  have hwrite : InstrUpdates .wrmsrlist s (msrWrite s a data) := .single (.msr (.inr (.inl rfl)) a data hf)
  exact hwrite.work rfl

theorem execRdmsrlist_updates (h : execRdmsrlist s = .next t) : InstrUpdates .rdmsrlist s t := by
  unfold execRdmsrlist at h
  split at h
  · exact absurd h (raise_ne_next _ _ _)
  · exact msrListLoop_induction (P := InstrUpdates .rdmsrlist s)
      (fun _ _ _ _ _ _ hu hb => hu.trans (rdmsrEntry_updates hb)) (fun _ _ hw hu => hu.work hw) .refl h

theorem execWrmsrlist_updates (h : execWrmsrlist s = .next t) : InstrUpdates .wrmsrlist s t := by
  unfold execWrmsrlist at h
  split at h
  · exact absurd h (raise_ne_next _ _ _)
  · exact msrListLoop_induction (P := InstrUpdates .wrmsrlist s)
      (fun _ _ _ _ _ _ hu hb => hu.trans (wrmsrEntry_updates hb)) (fun _ _ hw hu => hu.work hw) .refl h

/-! ### Every instruction -/

/-- An instruction that completes has made a sequence of the elementary updates that its kind allows. -/
theorem exec_updates (h : exec i s = .next t) : InstrUpdates i s t := by
  cases i with
  | cpuid => exact execCpuid_updates h
  | aadd32 dst src | aadd64 dst src | aand32 dst src | aand64 dst src | aor32 dst src | aor64 dst src
  | axor32 dst src | axor64 dst src => exact raoIssue_updates h
  | cmpoxadd32 m a b | cmpnoxadd32 m a b | cmpbxadd32 m a b | cmpnbxadd32 m a b | cmpzxadd32 m a b
  | cmpnzxadd32 m a b | cmpbexadd32 m a b | cmpnbexadd32 m a b | cmpsxadd32 m a b | cmpnsxadd32 m a b
  | cmppxadd32 m a b | cmpnpxadd32 m a b | cmplxadd32 m a b | cmpnlxadd32 m a b | cmplexadd32 m a b
  | cmpnlexadd32 m a b => exact cmpccxadd_updates (wide := false) h rfl
  | cmpoxadd64 m a b | cmpnoxadd64 m a b | cmpbxadd64 m a b | cmpnbxadd64 m a b | cmpzxadd64 m a b
  | cmpnzxadd64 m a b | cmpbexadd64 m a b | cmpnbexadd64 m a b | cmpsxadd64 m a b | cmpnsxadd64 m a b
  | cmppxadd64 m a b | cmpnpxadd64 m a b | cmplxadd64 m a b | cmpnlxadd64 m a b | cmplexadd64 m a b
  | cmpnlexadd64 m a b => exact cmpccxadd_updates (wide := true) h rfl
  | pconfig => exact execPconfig_updates h
  | wrmsrns => exact execWrmsrns_updates h
  | rdmsrlist => exact execRdmsrlist_updates h
  | wrmsrlist => exact execWrmsrlist_updates h
  | pbndkb => exact execPbndkb_updates h
  | mwait => exact execMwait_updates h
  | uiret => exact execUiret_updates h
  | urdmsrReg dst addr | urdmsrImm dst imm => exact urdmsr_updates h
  | uwrmsrReg addr src => exact uwrmsr_updates (.inl ⟨_, _, rfl⟩) h
  | uwrmsrImm imm src => exact uwrmsr_updates (.inr ⟨_, _, rfl⟩) h
  | vpdpbssd128 d a b | vpdpbssd256 d a b | vpdpbssds128 d a b | vpdpbssds256 d a b | vpdpbsud128 d a b
  | vpdpbsud256 d a b | vpdpbsuds128 d a b | vpdpbsuds256 d a b | vpdpbuud128 d a b | vpdpbuud256 d a b
  | vpdpbuuds128 d a b | vpdpbuuds256 d a b | vpdpwsud128 d a b | vpdpwsud256 d a b | vpdpwsuds128 d a b
  | vpdpwsuds256 d a b | vpdpwusd128 d a b | vpdpwusd256 d a b | vpdpwusds128 d a b | vpdpwusds256 d a b
  | vpdpwuud128 d a b | vpdpwuud256 d a b | vpdpwuuds128 d a b | vpdpwuuds256 d a b | vpmadd52huq128 d a b
  | vpmadd52huq256 d a b | vpmadd52luq128 d a b | vpmadd52luq256 d a b | vcvtneps2bf16128 d b
  | vcvtneps2bf16256 d b | vcvtneebf162ps128 d m | vcvtneebf162ps256 d m | vcvtneeph2ps128 d m
  | vcvtneeph2ps256 d m | vcvtneobf162ps128 d m | vcvtneobf162ps256 d m | vcvtneoph2ps128 d m | vcvtneoph2ps256 d m
  | vsm3msg1 d a b | vsm3msg2 d a b | vsm3rnds2 d a b imm | vsm4key4128 d a b | vsm4key4256 d a b
  | vsm4rnds4128 d a b | vsm4rnds4256 d a b => exact vexOp_updates h
  | tdpfp16ps d a b | tcmmimfp16ps d a b | tcmmrlfp16ps d a b => exact amxMultiply_updates h
  | vbcstnebf162ps128 d m | vbcstnebf162ps256 d m | vbcstnesh2ps128 d m | vbcstnesh2ps256 d m =>
    exact neBroadcast_updates h
  | vsha512rnds2 d a b | vsha512msg1 d b | vsha512msg2 d b => exact vexRegOp_updates h
  | prefetchnta m | prefetcht0 m | prefetcht1 m | prefetcht2 m | prefetchit1 m | prefetchit0 m =>
    exact hint_updates (m := m) h

/-! ## What every part of a step keeps -/

/-- Every part of a step keeps the modes and CR0, lets the TSC go up only, and keeps each clause of the invariant. -/
structure Evolves (s t : State) : Prop where
  modes : sameMode s t
  cr0 : t.cr0 = s.cr0
  tsc : s.tsc.toNat ≤ t.tsc.toNat
  mem : s.mem.wf = true → t.mem.wf = true
  msrs : Store.wf 0 s.msrs = true → Store.wf 0 t.msrs = true
  tmeKeys : Store.wf KeyEntry.unset s.tmeKeys = true → Store.wf KeyEntry.unset t.tmeKeys = true
  tseKeys : Store.wf KeyEntry.unset s.tseKeys = true → Store.wf KeyEntry.unset t.tseKeys = true
  flags : rflagsLegal s.rflags = true → rflagsLegal t.rflags = true
  deadline : s.userTimer.deadline &&& 0x3F = 0 → t.userTimer.deadline &&& 0x3F = 0

theorem Evolves.refl (s : State) : Evolves s s := ⟨⟨rfl, rfl, rfl, rfl, rfl⟩, rfl, le_rfl, id, id, id, id, id, id⟩

theorem Evolves.trans (h : Evolves s t) (h' : Evolves t u) : Evolves s u where
  modes := by
    obtain ⟨hmode, hcpl, hvmx, hsmm, henclave⟩ := h.modes
    obtain ⟨hmode', hcpl', hvmx', hsmm', henclave'⟩ := h'.modes
    exact ⟨hmode'.trans hmode, hcpl'.trans hcpl, hvmx'.trans hvmx, hsmm'.trans hsmm, henclave'.trans henclave⟩
  cr0 := h'.cr0.trans h.cr0
  tsc := h.tsc.trans h'.tsc
  mem := h'.mem ∘ h.mem
  msrs := h'.msrs ∘ h.msrs
  tmeKeys := h'.tmeKeys ∘ h.tmeKeys
  tseKeys := h'.tseKeys ∘ h.tseKeys
  flags := h'.flags ∘ h.flags
  deadline := h'.deadline ∘ h.deadline

/-- A sequence of updates of which each evolves the state evolves it. -/
theorem Evolves.of_sequence {r : State → State → Prop} (hr : ∀ s t, r s t → Evolves s t)
    (h : Relation.ReflTransGen r s t) : Evolves s t := by
  induction h with
  | refl => exact .refl s
  | tail _ hstep ih => exact ih.trans (hr _ _ hstep)

/-- The four stores are in canonical form. -/
theorem storesWf_iff : storesWf s = true ↔ s.mem.wf = true ∧ Store.wf 0 s.msrs = true ∧
    Store.wf KeyEntry.unset s.tmeKeys = true ∧ Store.wf KeyEntry.unset s.tseKeys = true := by
  simp only [storesWf, Bool.and_eq_true, and_assoc]

/-- The clauses of the invariant are among what is kept. -/
theorem Evolves.inv (h : Evolves s t) (hs : s.Inv) : t.Inv := by
  obtain ⟨hstores, hflags, hdeadline, hpaged⟩ := hs
  obtain ⟨hmode, -⟩ := h.modes
  obtain ⟨hmem, hmsrs, htme, htse⟩ := storesWf_iff.mp hstores
  refine ⟨storesWf_iff.mpr ⟨h.mem hmem, h.msrs hmsrs, h.tmeKeys htme, h.tseKeys htse⟩, h.flags hflags,
    h.deadline hdeadline, fun h64 => ?_⟩
  rw [h.cr0]
  exact hpaged (by rwa [State.in64, hmode] at h64)

/-! ### The updates that instructions and boundaries share -/

theorem evolves_of_tsc {v : QWord} (hv : s.tsc.toNat ≤ v.toNat) : Evolves s { s with tsc := v } :=
  { Evolves.refl s with tsc := hv }

theorem evolves_of_mem {m : Memory} (hm : s.mem.wf = true → m.wf = true) : Evolves s { s with mem := m } :=
  { Evolves.refl s with mem := hm }

theorem evolves_of_msrs {m : Store QWord} (hm : Store.wf 0 s.msrs = true → Store.wf 0 m = true) :
    Evolves s { s with msrs := m } :=
  { Evolves.refl s with msrs := hm }

theorem evolves_setMsr (s : State) (a : Nat) (v : QWord) : Evolves s { s with msrs := Store.set 0 a v s.msrs } :=
  evolves_of_msrs Store.wf_set

theorem evolves_setTmeKey (s : State) (k : Nat) (e : KeyEntry 512) : Evolves s (s.setTmeKey k e) :=
  { Evolves.refl s with tmeKeys := Store.wf_set }

theorem evolves_setTseKey (s : State) (k : Nat) (e : KeyEntry 256) : Evolves s (s.setTseKey k e) :=
  { Evolves.refl s with tseKeys := Store.wf_set }

theorem evolves_of_rflags {f : QWord} (hf : rflagsLegal s.rflags = true → rflagsLegal f = true) :
    Evolves s { s with rflags := f } := { Evolves.refl s with flags := hf }

theorem evolves_of_userTimer {u : UserTimer} (hu : s.userTimer.deadline &&& 0x3F = 0 → u.deadline &&& 0x3F = 0) :
    Evolves s { s with userTimer := u } := { Evolves.refl s with deadline := hu }

/-! ### Instructions -/

theorem evolves_of_sameSystem (h : sameSystem s t) : Evolves s t := by
  rw [h]
  exact { Evolves.refl s with }

theorem evolves_raoDrain (s : State) : Evolves s (raoDrain s) := by
  rw [raoDrain_frame]
  exact (evolves_of_mem wf_raoDrain).trans (evolves_of_sameSystem rfl)

theorem evolves_storeBytes (s : State) (pas : List Nat) (bs : List Byte) : Evolves s (s.storeBytes pas bs) :=
  (evolves_of_mem (Memory.wf_writeAll pas bs)).trans (evolves_of_sameSystem rfl)

/-- Bits 5:0 of a user deadline are 0, whatever is written. -/
theorem evolves_setUserTimer (s : State) (v : QWord) : Evolves s (s.setUserTimer v) :=
  evolves_of_userTimer fun _ => by
    simp only [BitVec.and_assoc]
    exact BitVec.and_zero

/-- Replacing an MSR's value evolves the state, unless it lowers the TSC. -/
theorem evolves_msrPut {a : Nat} {v : QWord} (hv : canonMsr s a = 0x10 → s.tsc.toNat ≤ v.toNat) :
    Evolves s (msrPut s a v) := by
  unfold msrPut
  simp only
  split_ifs with htsc
  · exact evolves_of_tsc (hv htsc)
  · exact evolves_setUserTimer s v
  · exact evolves_of_sameSystem rfl
  · exact { Evolves.refl s with }
  · exact evolves_setMsr s _ v

/-- A write that lowers the TSC faults. -/
theorem tsc_le_of_not_wrmsrFaults {a : Nat} {v : QWord} (hf : wrmsrFaults s a v = false)
    (ha : canonMsr s a = 0x10) : s.tsc.toNat ≤ v.toNat := by
  unfold wrmsrFaults at hf
  split at hf
  next d hd =>
    have haddr : d.addr = 0x10 := by simpa [ha] using List.find?_some hd
    have hall := by simpa [haddr] using hf
    exact hall.2
  next => cases hf

theorem evolves_msrWrite {a : Nat} {v : QWord} (hf : wrmsrFaults s a v = false) : Evolves s (msrWrite s a v) := by
  unfold msrWrite
  split
  · refine (evolves_raoDrain s).trans (evolves_msrPut fun ha => ?_)
    rw [canonMsr_raoDrain] at ha
    rw [raoDrain_frame]
    exact tsc_le_of_not_wrmsrFaults hf ha
  · exact evolves_msrPut (tsc_le_of_not_wrmsrFaults hf)

/-- Storing value after value keeps the canonical form. -/
theorem Store.wf_foldl_set {α : Type} [DecidableEq α] {d : α} (key : Nat → Nat) (value : Nat → α) (l : List Nat)
    {m : Store α} (h : Store.wf d m = true) :
    Store.wf d (l.foldl (fun m x => Store.set d (key x) (value x) m) m) = true := by
  induction l generalizing m with
  | nil => exact h
  | cons x l ih => exact ih (Store.wf_set h)

theorem evolves_lbrPush (s : State) : Evolves s (lbrPush s) := by
  unfold lbrPush
  split
  · have hdrew : Evolves s s.drew := evolves_of_sameSystem rfl
    exact hdrew.trans (evolves_of_msrs fun hm => Store.wf_set (Store.wf_foldl_set _ _ _ hm))
  · exact .refl s

theorem InstrUpdate.evolves (h : InstrUpdate i s t) : Evolves s t := by
  cases h with
  | work h => exact evolves_of_sameSystem h
  | wait _ a => exact { Evolves.refl s with }
  | flags _ f hf => exact evolves_of_rflags hf
  | store _ pas bs => exact evolves_storeBytes s pas bs
  | drain => exact evolves_raoDrain s
  | msr _ a v hf => exact evolves_msrWrite hf
  | sampleTsc _ v hv => exact evolves_of_tsc hv
  | branchRecord => exact evolves_lbrPush s
  | tmeKey _ k e => exact evolves_setTmeKey s k e
  | tseKey _ k e => exact evolves_setTseKey s k e

theorem exec_evolves (h : exec i s = .next t) : Evolves s t :=
  .of_sequence (fun _ _ => InstrUpdate.evolves) (exec_updates h)

/-! ## What instructions may change -/

/-- A write of an MSR touches only the components that MSRs stand for and, where it is serializing, those that a drain
of the queued updates touches. -/
theorem msrWrite_frame (s : State) (a : Nat) (v : QWord) :
    msrWrite s a v = { s with
      msrs := (msrWrite s a v).msrs, tsc := (msrWrite s a v).tsc, userTimer := (msrWrite s a v).userTimer
      guestTimer := (msrWrite s a v).guestTimer, fixedCtr0 := (msrWrite s a v).fixedCtr0
      mem := (msrWrite s a v).mem, monitor := (msrWrite s a v).monitor, rao := (msrWrite s a v).rao } := by
  unfold msrWrite
  rw [msrPut_frame]
  split
  · rw [raoDrain_frame]
  · rfl

/-- A component that no elementary update of an instruction changes, the instruction does not change. -/
theorem InstrUpdates.keeps {α : Type} {f : State → α} (hf : ∀ s t, InstrUpdate i s t → f t = f s)
    (h : InstrUpdates i s t) : f t = f s := by
  induction h with
  | refl => rfl
  | tail _ hstep ih => exact (hf _ _ hstep).trans ih

/-- Only an instruction that writes flags changes RFLAGS. -/
theorem InstrUpdate.rflags_eq (hi : ¬ writesFlags i) (h : InstrUpdate i s t) : t.rflags = s.rflags := by
  cases h with
  | work h => rw [h]
  | flags hw => exact absurd hw hi
  | drain => exact raoDrain_rflags s
  | msr _ a v => rw [msrWrite_frame]
  | branchRecord => exact lbrPush_rflags s
  | wait | store | sampleTsc | tmeKey | tseKey => rfl

/-- No instruction changes the platform's parameters. -/
theorem InstrUpdate.platform_eq (h : InstrUpdate i s t) : t.platform = s.platform := by
  cases h with
  | work h => rw [h]
  | drain => rw [raoDrain_frame]
  | msr _ a v => rw [msrWrite_frame]
  | branchRecord => exact lbrPush_platform s
  | flags | wait | store | sampleTsc | tmeKey | tseKey => rfl

/-- Where the platform has no serializing MSR, no write of an MSR is serializing. -/
theorem msrSerializing_eq_false (h : noSerializingMsr s) (a : Nat) : msrSerializing s a = false := by
  unfold msrSerializing
  split
  next d hd => exact h d (List.mem_of_find?_eq_some hd)
  next => rfl

/-- Only an instruction that stores, or performs queued stores, changes memory. -/
theorem InstrUpdate.mem_eq (hi : ¬ storesMemory i) (hm : ¬ writesMsr i ∨ noSerializingMsr s)
    (h : InstrUpdate i s t) : t.mem = s.mem := by
  cases h with
  | work h => rw [h]
  | store hw | drain hw => exact absurd hw hi
  | msr hw a v =>
    have hser : noSerializingMsr s := hm.resolve_left (not_not_intro hw)
    rw [msrWrite_plain v (msrSerializing_eq_false hser a), msrPut_frame]
  | branchRecord => exact lbrPush_mem s
  | flags | wait | sampleTsc | tmeKey | tseKey => rfl

/-- Only PCONFIG changes the TME-MK table. -/
theorem InstrUpdate.tmeKeys_eq (hi : i ≠ .pconfig) (h : InstrUpdate i s t) : t.tmeKeys = s.tmeKeys := by
  cases h with
  | work h => rw [h]
  | drain => rw [raoDrain_frame]
  | msr _ a v => rw [msrWrite_frame]
  | branchRecord => exact lbrPush_tmeKeys s
  | tmeKey hp => exact absurd hp hi
  | flags | wait | store | sampleTsc | tseKey => rfl

/-- Only PCONFIG changes the TSE table. -/
theorem InstrUpdate.tseKeys_eq (hi : i ≠ .pconfig) (h : InstrUpdate i s t) : t.tseKeys = s.tseKeys := by
  cases h with
  | work h => rw [h]
  | drain => rw [raoDrain_frame]
  | msr _ a v => rw [msrWrite_frame]
  | branchRecord => exact lbrPush_tseKeys s
  | tseKey hp => exact absurd hp hi
  | flags | wait | store | sampleTsc | tmeKey => rfl

/-- Only an instruction that stores, performs queued stores, or writes a serializing MSR changes memory. -/
theorem InstrUpdates.mem_eq (hi : ¬ storesMemory i) (hm : ¬ writesMsr i ∨ noSerializingMsr s)
    (h : InstrUpdates i s t) : t.mem = s.mem := by
  suffices t.platform = s.platform ∧ t.mem = s.mem from this.2
  induction h with
  | refl => exact ⟨rfl, rfl⟩
  | tail _ hstep ih =>
    obtain ⟨hplatform, hmem⟩ := ih
    have hm' := hm.imp_right fun hser d hd => hser d (hplatform ▸ hd)
    exact ⟨hstep.platform_eq.trans hplatform, (hstep.mem_eq hi hm').trans hmem⟩

/-! ## What a boundary can do -/

/-- The part of the state that agents and events at a boundary change without more ado: requests, the guest timer, waits
and the monitor, breakpoint matches, queues and records. -/
def sameQuiet (s t : State) : Prop :=
  t = { s with
    uirr := t.uirr, guestTimer := t.guestTimer, activity := t.activity, monitor := t.monitor, midList := t.midList
    matched := t.matched, rao := t.rao, env := t.env, pebs := t.pebs, draws := t.draws }

/-- The MSRs that agents and events write: IA32_RTIT_STATUS, the metrics of a PEBS record, the throttles that other
processors share. -/
def boundaryMsrs : List Nat := [0x571, 0x329, 0x198C, 0xE00, 0xE01]

/-- One elementary update at a boundary. -/
inductive BoundaryUpdate (s : State) : State → Prop
  | quiet {t : State} (h : sameQuiet s t) : BoundaryUpdate s t
  | time (v : QWord) (hv : s.tsc.toNat ≤ v.toNat) : BoundaryUpdate s { s with tsc := v }
  | userTimer (u : UserTimer) (hu : u.deadline = s.userTimer.deadline ∨ u.deadline = 0) :
      BoundaryUpdate s { s with userTimer := u }
  | store (pas : List Nat) (bs : List Byte) : BoundaryUpdate s { s with mem := s.mem.writeAll pas bs }
  | resumeFlag : BoundaryUpdate s { s with rflags := s.rflags ||| 0x10000 }
  | msr (a : Nat) (ha : a ∈ boundaryMsrs) (v : QWord) : BoundaryUpdate s { s with msrs := Store.set 0 a v s.msrs }
  | tmeKey (k : Nat) (e : KeyEntry 512) (h : tmeProgramLegal s k e = true) : BoundaryUpdate s (s.setTmeKey k e)
  | tseKey (k : Nat) (e : KeyEntry 256) (h : tseProgramLegal s k e = true) : BoundaryUpdate s (s.setTseKey k e)

/-- A sequence of elementary updates at a boundary. -/
abbrev BoundaryUpdates : State → State → Prop := Relation.ReflTransGen BoundaryUpdate

theorem BoundaryUpdates.quiet (h : BoundaryUpdates s t) (hq : sameQuiet t u) : BoundaryUpdates s u := h.tail (.quiet hq)

/-- A sequence of parts of the boundary goes on exactly when its first part does. -/
theorem boundary_bind_eq_ok {α β : Type} {r : Except Fault α} {f : α → Except Fault β} {b : β} :
    (r >>= f) = .ok b ↔ ∃ a, r = .ok a ∧ f a = .ok b := by
  cases r <;> simp [bind, Except.bind]

/-- Delivery ends the step. -/
theorem deliver_ne_ok (d : Delivery) (s t : State) : deliver d s ≠ .ok t := nofun

/-! ### Time, timers and the memory system -/

theorem tick_updates (s : State) : BoundaryUpdates s (tick s) := by
  have htime : BoundaryUpdate s { s with tsc := (tick s).tsc } := by
    refine .time _ ?_
    have hlt := s.tsc.isLt
    simp only [tick, BitVec.toNat_ofNat]
    omega
  exact .quiet (.single htime) rfl

theorem userTimerAgent_updates (s : State) : BoundaryUpdates s (userTimerAgent s) := by
  unfold userTimerAgent
  split
  · exact .single (.userTimer _ (.inr rfl))
  · exact .refl

theorem guestTimerAgent_updates (s : State) : BoundaryUpdates s (guestTimerAgent s) := by
  unfold guestTimerAgent
  split
  · exact .single (.quiet rfl)
  · exact .refl

theorem raoPerform_updates (u : RaoUpdate) (h : BoundaryUpdates s t) : BoundaryUpdates s (raoPerform t u) :=
  .quiet (h.tail (.store (paRange u.pa u.size) _)) rfl

theorem foldl_raoPerform_updates (l : List RaoUpdate) (h : BoundaryUpdates s t) :
    BoundaryUpdates s (l.foldl raoPerform t) := by
  induction l generalizing t with
  | nil => exact h
  | cons u l ih => exact ih (raoPerform_updates u h)

theorem raoPick_updates (picks : List Nat) (h : BoundaryUpdates s t) : BoundaryUpdates s (raoPick t picks) := by
  induction picks generalizing t with
  | nil => exact h
  | cons n picks ih =>
    unfold raoPick
    split
    next u _ => exact ih ((raoPerform_updates u h).quiet rfl)
    next => exact ih h

theorem raoAgent_updates (s : State) : BoundaryUpdates s (raoAgent s) := by
  unfold raoAgent
  split
  · exact .quiet (foldl_raoPerform_updates s.rao .refl) rfl
  · exact raoPick_updates _ (.single (.quiet rfl))

/-! ### Breakpoints and trace triggers -/

theorem fireTriggers_updates (s : State) (is : List TriggerInput) : BoundaryUpdates s (fireTriggers s is) := by
  unfold fireTriggers
  simp only
  split
  · exact .refl
  · exact .single (.msr 0x571 (by decide) _)

theorem onMatches_updates {xs : List (Fin 4)} (h : onMatches xs s = .ok t) : BoundaryUpdates s t := by
  obtain ⟨-, rfl⟩ := onMatches_eq_ok.mp h
  exact fireTriggers_updates s _

theorem dataBreaks_updates (h : dataBreaks s = .ok t) : BoundaryUpdates s t :=
  have hquiet : BoundaryUpdate s { s with matched := [] } := .quiet rfl
  .head hquiet (onMatches_updates h)

/-! ### Events -/

theorem wakeUp_updates (s : State) : BoundaryUpdates s s.wakeUp := .single (.quiet rfl)

theorem markResume_updates (s : State) : BoundaryUpdates s s.markResume := by
  unfold State.markResume
  split
  · exact .single .resumeFlag
  · exact .refl

theorem onInterrupt_updates {d : Delivery} (h : onInterrupt d s = .ok t) : BoundaryUpdates s t := by
  unfold onInterrupt at h
  split at h
  · exact absurd h (deliver_ne_ok d s t)
  split at h
  · cases h; exact wakeUp_updates s
  · cases h; exact .refl

theorem onStore_updates {pa : Nat} {bs : List Byte} {processor : Bool} (h : onStore pa bs processor s = .ok t) :
    BoundaryUpdates s t := by
  cases h
  exact .quiet (.single (.store _ bs)) rfl

/-- The throttle MSRs have no other name and no component of their own. -/
theorem msrPut_throttle (s : State) (n : Fin 2) (v : QWord) :
    msrPut s (0xE00 + n) v = { s with msrs := Store.set 0 (0xE00 + n) v s.msrs } := by
  have hn := n.isLt
  have hcanon : canonMsr s (0xE00 + n) = 0xE00 + n := by
    unfold canonMsr
    rw [if_neg (by omega), if_neg (by omega), if_neg (by omega), if_neg (by omega)]
  unfold msrPut
  simp only [hcanon]
  rw [if_neg (by omega), if_neg (by omega), if_neg (by omega), if_neg (by omega)]

theorem throttle_mem_boundaryMsrs : ∀ n : Fin 2, 0xE00 + n.val ∈ boundaryMsrs := by decide

theorem onThrottle_updates {n : Fin 2} {v : QWord} (h : onThrottle n v s = .ok t) : BoundaryUpdates s t := by
  unfold onThrottle at h
  cases h
  split
  · rw [msrPut_throttle]
    exact .single (.msr _ (throttle_mem_boundaryMsrs n) v)
  · exact .refl

theorem onWake_updates (h : onWake s = .ok t) : BoundaryUpdates s t := by
  unfold onWake at h
  cases h
  split
  · exact .refl
  · exact wakeUp_updates s

theorem onUserTimer_updates (h : onUserTimer s = .ok t) : BoundaryUpdates s t := by
  unfold onUserTimer at h
  cases h
  split
  · exact .quiet (.single (.userTimer { s.userTimer with pending := false } (.inl rfl))) rfl
  · exact .refl

theorem onGuestTimer_updates (h : onGuestTimer s = .ok t) : BoundaryUpdates s t := by
  unfold onGuestTimer at h
  split at h
  · split at h
    · exact absurd h (deliver_ne_ok _ s t)
    · cases h
      refine .quiet (.trans ?_ (markResume_updates _)) rfl
      split
      · exact .refl
      · exact wakeUp_updates s
  · cases h; exact .refl

theorem onVirtualInterrupt_updates (h : onVirtualInterrupt s = .ok t) : BoundaryUpdates s t := by
  unfold onVirtualInterrupt at h
  split at h
  · exact absurd h (deliver_ne_ok _ s t)
  · cases h; exact .refl

/-- Reading MSRs for a PEBS record draws free values at most. -/
theorem captureMsrs_updates (l : List Nat) (s : State) : BoundaryUpdates s (captureMsrs s l).2 := by
  induction l generalizing s with
  | nil => exact .refl
  | cons a l ih =>
    refine .head (.quiet ?_) (ih (msrRead s a).2)
    unfold msrRead
    split <;> rfl

/-- The metrics base and MSR_PERF_METRICS are cleared. -/
theorem BoundaryUpdates.clearMetrics (h : BoundaryUpdates s t) :
    BoundaryUpdates s { t with msrs := Store.set 0 0x198C 0 (Store.set 0 0x329 0 t.msrs) } :=
  (h.tail (.msr 0x329 (by decide) 0)).tail (.msr 0x198C (by decide) 0)

theorem onPebs_updates {counters metrics : Bool} (h : onPebs counters metrics s = .ok t) : BoundaryUpdates s t := by
  unfold onPebs at h
  simp only at h
  cases h
  split
  · have hrecord (l : List Nat) (g : PebsCounters) :
        BoundaryUpdates s { (captureMsrs s l).2 with pebs := s.pebs ++ [g] } := .quiet (captureMsrs_updates l s) rfl
    exact (hrecord _ _).clearMetrics
  · exact .quiet (captureMsrs_updates _ s) rfl

/-- An event that is not delivered has made elementary updates of a boundary. -/
theorem onEvent_updates {e : Event} (h : onEvent s e = .ok t) : BoundaryUpdates s t := by
  cases e with
  | interrupt v | pmi v => exact onInterrupt_updates h
  | nmi | smi | init | reset | debug | machineCheck => exact absurd h (deliver_ne_ok _ s t)
  | userInterrupt v => cases h; exact .single (.quiet rfl)
  | store pa bs processor => exact onStore_updates h
  | tmeKey k e =>
    rw [onEvent] at h
    cases h
    split
    next hlegal => exact .single (.tmeKey k e hlegal)
    next => exact .refl
  | tseKey k e =>
    rw [onEvent] at h
    cases h
    split
    next hlegal => exact .single (.tseKey k e hlegal)
    next => exact .refl
  | throttle n v => exact onThrottle_updates h
  | wake => exact onWake_updates h
  | userTimer => exact onUserTimer_updates h
  | guestTimer => exact onGuestTimer_updates h
  | virtualInterrupt => exact onVirtualInterrupt_updates h
  | perfEvent n | perfOverflow n => cases h; exact fireTriggers_updates s _
  | pebsRecord counters metrics => exact onPebs_updates h

theorem foldlM_onEvent_updates {es : List Event} (h : es.foldlM onEvent s = .ok t) : BoundaryUpdates s t := by
  induction es generalizing s with
  | nil => cases h; exact .refl
  | cons e es ih =>
    rw [List.foldlM_cons, boundary_bind_eq_ok] at h
    obtain ⟨u, he, hes⟩ := h
    exact (onEvent_updates he).trans (ih hes)

theorem takeEvents_updates (h : takeEvents s = .ok t) : BoundaryUpdates s t :=
  have hquiet : BoundaryUpdate s { s with env := { s.env with events := s.env.events.tail } } := .quiet rfl
  .head hquiet (foldlM_onEvent_updates h)

theorem endMonitoredWait_updates (s : State) : BoundaryUpdates s (endMonitoredWait s) := by
  unfold endMonitoredWait
  split
  · split
    · exact wakeUp_updates s
    · exact wakeUp_updates s
    · exact .refl
  · exact .refl

/-- A boundary that nothing stops has made a sequence of elementary updates. -/
theorem boundary_updates (h : boundary s = .ok t) : BoundaryUpdates s t := by
  simp only [boundary, boundary_bind_eq_ok, pure, Except.pure, Except.ok.injEq] at h
  obtain ⟨r, hdata, v, hevents, w, huser, x, hcode, rfl⟩ := h
  have hagents : BoundaryUpdates s (raoAgent (guestTimerAgent (userTimerAgent (tick s)))) :=
    (((tick_updates s).trans (userTimerAgent_updates _)).trans (guestTimerAgent_updates _)).trans (raoAgent_updates _)
  have htaken : BoundaryUpdates s v := (hagents.trans (dataBreaks_updates hdata)).trans (takeEvents_updates hevents)
  have hwait : BoundaryUpdates s w := by
    rw [recognizeUser_eq_ok huser]
    exact htaken.trans (endMonitoredWait_updates v)
  exact .quiet (hwait.trans (onMatches_updates hcode)) rfl

/-! ## Every step keeps the modes, the TSC and the invariant -/

/-- RF is no reserved flag. -/
theorem rflagsLegal_setResume {f : QWord} (hf : rflagsLegal f = true) : rflagsLegal (f ||| 0x10000) = true := by
  refine rflagsLegal_of_agree ?_ hf
  rw [BitVec.and_or_distrib_right]
  exact BitVec.or_zero

theorem BoundaryUpdate.evolves (h : BoundaryUpdate s t) : Evolves s t := by
  cases h with
  | quiet h => rw [h]; exact { Evolves.refl s with }
  | time v hv => exact evolves_of_tsc hv
  | userTimer u hu =>
    refine evolves_of_userTimer fun h => ?_
    obtain hu | hu := hu
    · rwa [hu]
    · rw [hu]
      exact BitVec.zero_and
  | store pas bs => exact evolves_of_mem (Memory.wf_writeAll pas bs)
  | resumeFlag => exact evolves_of_rflags rflagsLegal_setResume
  | msr a _ v => exact evolves_setMsr s a v
  | tmeKey k e => exact evolves_setTmeKey s k e
  | tseKey k e => exact evolves_setTseKey s k e

theorem boundary_evolves (h : boundary s = .ok t) : Evolves s t :=
  .of_sequence (fun _ _ => BoundaryUpdate.evolves) (boundary_updates h)

/-- The state in which the instruction executes, and the note of what it matched, are of no account. -/
theorem runFetched_evolves (h : runFetched s = .next t) : Evolves s t := by
  have hnext (n : Nat) : Evolves s (s.withNext n) := { Evolves.refl s with }
  unfold runFetched at h
  split at h
  next i n _ =>
    obtain ⟨u, hu, rfl⟩ := noteMatches_eq_next.mp h
    have hmatched : Evolves u { u with matched := dataMatches (s.withNext n) u i } :=
      BoundaryUpdate.evolves (.quiet rfl)
    exact ((hnext n).trans (exec_evolves hu)).trans hmatched
  next i _ =>
    unfold narrowOutcome at h
    split at h <;> cases h
  next n _ =>
    cases h
    exact (hnext n).trans (evolves_of_sameSystem rfl)
  next x _ => exact absurd h (raise_ne_next x s t)

theorem step_evolves (h : step s = .next t) : Evolves s t := by
  unfold step at h
  split at h
  next => cases h
  next u hu =>
    have hboundary := boundary_evolves hu
    split at h
    · exact hboundary.trans (runFetched_evolves h)
    · cases h; exact hboundary

/-! ## The key tables at a boundary -/

/-- The KeyIDs that PCONFIG accepts stay, and only their entries change. -/
structure KeysEvolve (s t : State) : Prop where
  tmeMax : tmeMaxKey t = tmeMaxKey s
  tseMax : tseMaxKeys t = tseMaxKeys s
  tme : ∀ k, Store.get KeyEntry.unset k t.tmeKeys ≠ Store.get KeyEntry.unset k s.tmeKeys → k ≠ 0 ∧ k ≤ tmeMaxKey s
  tse : ∀ k, Store.get KeyEntry.unset k t.tseKeys ≠ Store.get KeyEntry.unset k s.tseKeys → k ≠ 0 ∧ k < tseMaxKeys s

theorem KeysEvolve.refl (s : State) : KeysEvolve s s := ⟨rfl, rfl, fun _ h => absurd rfl h, fun _ h => absurd rfl h⟩

theorem KeysEvolve.trans (h : KeysEvolve s t) (h' : KeysEvolve t u) : KeysEvolve s u where
  tmeMax := h'.tmeMax.trans h.tmeMax
  tseMax := h'.tseMax.trans h.tseMax
  tme k hk := by
    by_cases heq : Store.get KeyEntry.unset k t.tmeKeys = Store.get KeyEntry.unset k s.tmeKeys
    · exact h.tmeMax ▸ h'.tme k (heq ▸ hk)
    · exact h.tme k heq
  tse k hk := by
    by_cases heq : Store.get KeyEntry.unset k t.tseKeys = Store.get KeyEntry.unset k s.tseKeys
    · exact h.tseMax ▸ h'.tse k (heq ▸ hk)
    · exact h.tse k heq

/-- Where the key tables stay, so do the KeyIDs that PCONFIG accepts if IA32_TME_ACTIVATE, IA32_TSE_CAPABILITY and the
platform do. -/
theorem KeysEvolve.of_eq (htme : t.tmeKeys = s.tmeKeys) (htse : t.tseKeys = s.tseKeys)
    (hact : Store.get 0 0x982 t.msrs = Store.get 0 0x982 s.msrs)
    (hcap : Store.get 0 addrTseCapability t.msrs = Store.get 0 addrTseCapability s.msrs)
    (hplatform : t.platform = s.platform) : KeysEvolve s t where
  tmeMax := by rw [tmeMaxKey, tmeActivated, hact, tmeMaxKey, tmeActivated]
  tseMax := by rw [tseMaxKeys, hcap, hplatform, tseMaxKeys]
  tme k hk := absurd (by rw [htme]) hk
  tse k hk := absurd (by rw [htse]) hk

theorem BoundaryUpdate.keysEvolve (h : BoundaryUpdate s t) : KeysEvolve s t := by
  cases h with
  | quiet h => rw [h]; exact .of_eq rfl rfl rfl rfl rfl
  | time | userTimer | store | resumeFlag => exact .of_eq rfl rfl rfl rfl rfl
  | msr a ha v =>
    have hother {b : Nat} (hb : b ∉ boundaryMsrs) : b ≠ a := fun e => hb (e ▸ ha)
    exact .of_eq rfl rfl (Store.get_set_other (hother (by decide))) (Store.get_set_other (hother (by decide))) rfl
  | tmeKey j e hlegal =>
    refine ⟨rfl, rfl, fun k hk => ?_, fun _ hk => absurd rfl hk⟩
    obtain rfl : k = j := by_contra fun hne => hk (Store.get_set_other hne)
    exact tmeProgramLegal_keyId hlegal
  | tseKey j e hlegal =>
    refine ⟨rfl, rfl, fun _ hk => absurd rfl hk, fun k hk => ?_⟩
    obtain rfl : k = j := by_contra fun hne => hk (Store.get_set_other hne)
    exact tseProgramLegal_keyId hlegal

theorem BoundaryUpdates.keysEvolve (h : BoundaryUpdates s t) : KeysEvolve s t := by
  induction h with
  | refl => exact .refl s
  | tail _ hstep ih => exact ih.trans hstep.keysEvolve

end

/-! ### The statements -/

/-- Settles O6: each clause of the invariant is among what every elementary update of a boundary and of an instruction
keeps. -/
theorem stepKeepsInvariant : Obligations.StepKeepsInvariant := by
  unfold Obligations.StepKeepsInvariant
  intro s t hs h
  exact (step_evolves h).inv hs

/-- Settles O9: no elementary update of a boundary or of an instruction changes the modes or lowers the TSC. -/
theorem stepKeepsModesAndTsc : Obligations.StepKeepsModesAndTsc := by
  unfold Obligations.StepKeepsModesAndTsc
  intro s t h
  have hevolves : Evolves s t := h.elim boundary_evolves step_evolves
  exact ⟨hevolves.modes, hevolves.tsc⟩

/-- Settles O10, by induction on the elementary updates of the instruction: each that changes RFLAGS or memory is one
that only the named instructions make. -/
theorem flagsAndMemoryWrittenOnlyBy : Obligations.FlagsAndMemoryWrittenOnlyBy := by
  unfold Obligations.FlagsAndMemoryWrittenOnlyBy
  intro i s t h
  have hupdates := exec_updates h
  refine ⟨fun hi => hupdates.keeps fun _ _ => InstrUpdate.rflags_eq hi, fun hi hm pa => ?_⟩
  rw [hupdates.mem_eq hi hm]

/-- Settles O11: of the elementary updates of an instruction only PCONFIG's reach the key tables, and those of a boundary
program KeyIDs that PCONFIG accepts, which no boundary changes. -/
theorem keyTablesWrittenOnlyByPconfig : Obligations.KeyTablesWrittenOnlyByPconfig := by
  unfold Obligations.KeyTablesWrittenOnlyByPconfig
  refine ⟨fun i s t h hi => ⟨?tme, ?tse⟩, fun s t k h => ?boundary⟩
  case tme => exact (exec_updates h).keeps fun _ _ => InstrUpdate.tmeKeys_eq hi
  case tse => exact (exec_updates h).keeps fun _ _ => InstrUpdate.tseKeys_eq hi
  case boundary =>
    have hkeys := (boundary_updates h).keysEvolve
    exact ⟨hkeys.tme k, hkeys.tse k⟩

/-! ## Reset -/

/-- Settles O7: the clauses are closed facts about the reset values. -/
theorem resetMeetsInvariant : Obligations.ResetMeetsInvariant := by
  unfold Obligations.ResetMeetsInvariant State.Inv pagedIn64
  refine ⟨?stores, ?flags, ?deadline, ?paged⟩
  case stores => decide
  case flags => decide
  case deadline => decide
  case paged => decide

/-- Every row of a tile after reset is zero, past the last row too. -/
theorem tileRow_reset (t : RegNum) (r : Nat) : tileRow (State.reset.tile t) r = 0 := by
  have htile : State.reset.tile t = Vector.replicate 16 0 := Vector.getElem_replicate _
  rw [htile, tileRow]
  by_cases hr : r < 16
  · simp [hr]
  · simp [hr]

/-- Settles O8: a case for each clause. -/
theorem resetValues : Obligations.ResetValues := by
  unfold Obligations.ResetValues
  have hdims : ∀ t : RegNum, State.reset.tileRows t = 0 ∧ State.reset.tileColsb t = 0 := by decide
  have hcfgB : ∀ n < 8, msrStored State.reset (0x1902 + 4 * n) = 0 := by decide
  exact ⟨rfl, rfl, hdims, tileRow_reset, hcfgB, rfl, rfl, rfl, rfl, rfl, rfl, rfl, by decide⟩

section
variable {s : State} {a n : Nat} {v : QWord}

/-! ## The names of an MSR -/

/-- Only a write of IA32_MISC_ENABLE changes the monitor enable. -/
theorem monitorEnabled_msrPut (h : canonMsr s a ≠ 0x1A0) : monitorEnabled (msrPut s a v) = monitorEnabled s := by
  unfold msrPut
  simp only
  split_ifs
  · rfl
  · rfl
  · rfl
  · rfl
  · rw [monitorEnabled, Store.get_set_other (Ne.symm h), monitorEnabled]

/-- Whether a counter has its legacy names depends on CPUID alone. -/
theorem canonMsr_congr {t : State} (h : ∀ leaf sub, cpuidQuery t leaf sub = cpuidQuery s leaf sub) (b : Nat) :
    canonMsr t b = canonMsr s b := by
  have hgp (k : Nat) : legacyGp t k = legacyGp s k := by rw [legacyGp, h, h, legacyGp]
  have hfixed (k : Nat) : legacyFixed t k = legacyFixed s k := by rw [legacyFixed, h, h, legacyFixed]
  simp only [canonMsr, hgp, hfixed]

/-- A write of an MSR other than IA32_MISC_ENABLE gives no MSR another address. -/
theorem canonMsr_msrPut (h : canonMsr s a ≠ 0x1A0) (b : Nat) : canonMsr (msrPut s a v) b = canonMsr s b := by
  refine canonMsr_congr (cpuidQuery_congr ?_ ?_ ?_ (monitorEnabled_msrPut h)) b
  · rw [msrPut_frame]
  · rw [msrPut_frame]
  · rw [msrPut_frame]

/-- What holds of a write in the state after the queued updates holds of `msr_write`. -/
theorem msrWrite_cases {P : State → Prop} (hplain : P (msrPut s a v)) (hdrain : P (msrPut (raoDrain s) a v)) :
    P (msrWrite s a v) := by
  unfold msrWrite
  split
  · exact hdrain
  · exact hplain

theorem canonMsr_msrWrite (h : canonMsr s a ≠ 0x1A0) (b : Nat) : canonMsr (msrWrite s a v) b = canonMsr s b := by
  refine msrWrite_cases (P := fun t => canonMsr t b = canonMsr s b) (canonMsr_msrPut h b) ?_
  rw [canonMsr_msrPut (by rwa [canonMsr_raoDrain]), canonMsr_raoDrain]

/-- A write of an MSR leaves every other one alone. -/
theorem msrStored_msrWrite_other {c : Nat} (h : c ≠ canonMsr s a) : msrStored (msrWrite s a v) c = msrStored s c := by
  refine msrWrite_cases (P := fun t => msrStored t c = msrStored s c) (msrStored_msrPut_other v h) ?_
  rw [msrStored_msrPut_other v (by rwa [canonMsr_raoDrain]), msrStored_raoDrain]

/-- Deadline and vector of IA32_UINTR_TIMER make up the value written. -/
theorem userTimer_join (v : QWord) : (v &&& ~~~0x3F) ||| (v.setWidth 6).setWidth 64 = v := by
  refine BitVec.eq_of_getLsbD_eq fun j hj => ?_
  have hmask : BitVec.getLsbD (0x3F : QWord) j = decide (j < 6) := by
    revert j
    decide
  simp only [BitVec.getLsbD_or, BitVec.getLsbD_and, BitVec.getLsbD_not, BitVec.getLsbD_setWidth, hmask, hj,
    decide_true, Bool.true_and]
  by_cases h6 : j < 6 <;> simp [h6]

/-- The TSC reads as written outside a guest with TSC offsetting. -/
theorem guestTsc_eq (h : s.vmx ≠ .nonRoot ∨ s.vmcs.useTscOffset = false) : guestTsc s = s.tsc := by
  rw [guestTsc, if_neg]
  rintro ⟨hguest, hoffset⟩
  obtain h | h := h
  · exact h hguest
  · exact absurd hoffset (by simp [h])

/-- An MSR holds what was written, IA32_EFER and the TSC of a guest with TSC offsetting apart. -/
theorem msrStored_msrPut_same (hs : Store.wf 0 s.msrs = true) (hefer : canonMsr s a ≠ 0xC0000080)
    (htsc : canonMsr s a ≠ 0x10 ∨ s.vmx ≠ .nonRoot ∨ s.vmcs.useTscOffset = false) :
    msrStored (msrPut s a v) (canonMsr s a) = v := by
  unfold msrPut
  simp only
  generalize canonMsr s a = c at hefer htsc ⊢
  split_ifs with h1 h2 h3 h4
  · subst h1
    exact guestTsc_eq (htsc.resolve_left (not_not_intro rfl))
  · subst h2
    exact userTimer_join v
  · subst h3
    rfl
  · obtain ⟨rfl, hactive⟩ := h4
    rw [msrStored]
    exact if_pos (⟨rfl, hactive⟩ : _ ∧ _)
  · have hactive : ¬ (c = 0x6E0 ∧ guestDeadlineActive { s with msrs := Store.set 0 c v s.msrs } = true) := h4
    rw [msrStored, if_neg h1, if_neg h2, if_neg h3, if_neg hefer, if_neg hactive]
    exact Store.get_set_same hs

theorem msrStored_msrWrite_same (hs : storesWf s = true) (hefer : canonMsr s a ≠ 0xC0000080)
    (htsc : canonMsr s a ≠ 0x10 ∨ s.vmx ≠ .nonRoot ∨ s.vmcs.useTscOffset = false) :
    msrStored (msrWrite s a v) (canonMsr s a) = v := by
  obtain ⟨-, hmsrs, -, -⟩ := storesWf_iff.mp hs
  refine msrWrite_cases (P := fun t => msrStored t (canonMsr s a) = v) (msrStored_msrPut_same hmsrs hefer htsc) ?_
  have hvmx : (raoDrain s).vmx = s.vmx := by rw [raoDrain_frame]
  have hvmcs : (raoDrain s).vmcs = s.vmcs := by rw [raoDrain_frame]
  have hmsrs' : (raoDrain s).msrs = s.msrs := by rw [raoDrain_frame]
  rw [← hvmx, ← hvmcs] at htsc
  rw [← hmsrs'] at hmsrs
  rw [← canonMsr_raoDrain s a] at hefer htsc ⊢
  exact msrStored_msrPut_same hmsrs hefer htsc

/-! ## The names of a counter -/

/-- Two names of one MSR that has no rule of its own: what is written through one is read through the other, while the
counters do not count. -/
theorem msrRead_msrWrite_sameName {b c : Nat} (hs : storesWf s = true) (hp : s.pmuRunning = false)
    (ha : canonMsr s a = c) (hb : canonMsr s b = c) (hc : 0x1900 ≤ c) (hc' : c < 0x1B00) :
    (msrRead (msrWrite s a v) b).1 = v := by
  subst ha
  have hrun : (msrWrite s a v).pmuRunning = false := by rwa [msrWrite_frame]
  have hname : canonMsr (msrWrite s a v) b = canonMsr s a := (canonMsr_msrWrite (by omega) b).trans hb
  have hfree : countsFreely (msrWrite s a v) b = false := by rw [countsFreely, hrun, Bool.false_and, Bool.false_and]
  rw [msrRead, hfree, hname]
  exact msrStored_msrWrite_same hs (by omega) (.inl (by omega))

theorem canonMsr_self (h : 0x1900 ≤ a) : canonMsr s a = a := by
  rw [canonMsr, if_neg (by omega), if_neg (by omega), if_neg (by omega), if_neg (by omega)]

theorem canonMsr_aPmc (hn : n < 32) :
    canonMsr s (0x4C1 + n) = if legacyGp s n = true then 0x1900 + 4 * n else 0x4C1 + n := by
  rw [canonMsr, Nat.add_sub_cancel_left]
  by_cases hl : legacyGp s n = true
  · rw [if_pos ⟨by omega, by omega, hl⟩, if_pos hl]
  · rw [if_neg (fun h => hl h.2.2), if_neg (by omega), if_neg (by omega), if_neg (by omega), if_neg hl]

theorem canonMsr_pmc (hn : n < 32) :
    canonMsr s (0xC1 + n) = if legacyGp s n = true then 0x1900 + 4 * n else 0xC1 + n := by
  rw [canonMsr, if_neg (by omega), Nat.add_sub_cancel_left]
  by_cases hl : legacyGp s n = true
  · rw [if_pos ⟨by omega, by omega, hl⟩, if_pos hl]
  · rw [if_neg (fun h => hl h.2.2), if_neg (by omega), if_neg (by omega), if_neg hl]

theorem canonMsr_perfEvtSel (hn : n < 32) :
    canonMsr s (0x186 + n) = if legacyGp s n = true then 0x1901 + 4 * n else 0x186 + n := by
  rw [canonMsr, if_neg (by omega), if_neg (by omega), Nat.add_sub_cancel_left]
  by_cases hl : legacyGp s n = true
  · rw [if_pos ⟨by omega, by omega, hl⟩, if_pos hl]
  · rw [if_neg (fun h => hl h.2.2), if_neg (by omega), if_neg hl]

theorem canonMsr_fixedCtr (hn : n < 32) :
    canonMsr s (0x309 + n) = if legacyFixed s n = true then 0x1980 + 4 * n else 0x309 + n := by
  rw [canonMsr, if_neg (by omega), if_neg (by omega), if_neg (by omega), Nat.add_sub_cancel_left]
  by_cases hl : legacyFixed s n = true
  · rw [if_pos ⟨by omega, by omega, hl⟩, if_pos hl]
  · rw [if_neg (fun h => hl h.2.2), if_neg hl]

/-- The names of an enumerated general-purpose counter stand for one MSR. -/
theorem canonMsr_gpNames (hn : n < 32) (hl : legacyGp s n = true) :
    ∀ a ∈ [0x4C1 + n, 0xC1 + n, 0x1900 + 4 * n], canonMsr s a = 0x1900 + 4 * n := by
  simp only [List.forall_mem_cons, List.not_mem_nil, false_implies, implies_true, and_true]
  exact ⟨(canonMsr_aPmc hn).trans (if_pos hl), (canonMsr_pmc hn).trans (if_pos hl), canonMsr_self (by omega)⟩

/-- The names of its event selector stand for one MSR. -/
theorem canonMsr_selectorNames (hn : n < 32) (hl : legacyGp s n = true) :
    ∀ a ∈ [0x186 + n, 0x1901 + 4 * n], canonMsr s a = 0x1901 + 4 * n := by
  simp only [List.forall_mem_cons, List.not_mem_nil, false_implies, implies_true, and_true]
  exact ⟨(canonMsr_perfEvtSel hn).trans (if_pos hl), canonMsr_self (by omega)⟩

/-- The names of an enumerated fixed-function counter stand for one MSR. -/
theorem canonMsr_fixedNames (hn : n < 32) (hl : legacyFixed s n = true) :
    ∀ a ∈ [0x309 + n, 0x1980 + 4 * n], canonMsr s a = 0x1980 + 4 * n := by
  simp only [List.forall_mem_cons, List.not_mem_nil, false_implies, implies_true, and_true]
  exact ⟨(canonMsr_fixedCtr hn).trans (if_pos hl), canonMsr_self (by omega)⟩

/-- Where the leaves do not enumerate a general-purpose counter, its legacy addresses are names of their own. -/
theorem canonMsr_gpNames_of_not_legacy (hn : n < 32) (hl : legacyGp s n = false) :
    ∀ a ∈ [0x4C1 + n, 0xC1 + n, 0x186 + n], canonMsr s a = a := by
  have hl' : ¬ legacyGp s n = true := Bool.eq_false_iff.mp hl
  simp only [List.forall_mem_cons, List.not_mem_nil, false_implies, implies_true, and_true]
  exact ⟨(canonMsr_aPmc hn).trans (if_neg hl'), (canonMsr_pmc hn).trans (if_neg hl'),
    (canonMsr_perfEvtSel hn).trans (if_neg hl')⟩

end

/-- Settles O31: names with one canonical address share their storage, by read after write of the MSR store and of the
components with an address of their own. -/
theorem msrAliasesShareStorage : Obligations.MsrAliasesShareStorage := by
  unfold Obligations.MsrAliasesShareStorage
  refine ⟨fun s v hs hp n hn => ⟨fun hl => ⟨?data, ?selector⟩, fun hl => ?fixed, fun hl => ?noGp, fun hl => ?noFixed⟩,
    fun s a c v => ⟨msrStored_msrWrite_other, msrStored_msrWrite_same⟩⟩
  case data =>
    have hnames := canonMsr_gpNames hn hl
    exact fun a ha b hb => msrRead_msrWrite_sameName hs hp (hnames a ha) (hnames b hb) (by omega) (by omega)
  case selector =>
    have hnames := canonMsr_selectorNames hn hl
    exact fun a ha b hb => msrRead_msrWrite_sameName hs hp (hnames a ha) (hnames b hb) (by omega) (by omega)
  case fixed =>
    have hnames := canonMsr_fixedNames hn hl
    exact fun a ha b hb => msrRead_msrWrite_sameName hs hp (hnames a ha) (hnames b hb) (by omega) (by omega)
  case noGp => exact canonMsr_gpNames_of_not_legacy hn hl
  case noFixed => exact (canonMsr_fixedCtr hn).trans (if_neg (Bool.eq_false_iff.mp hl))

end Sys2Proof.Machine

/-! ## Linear addresses: canonicality, LAM and LASS (20_memory R96 to R116) -/

namespace Sys2Proof.Machine

/-! ## Sign extension from bit `w - 1` -/

theorem getLsbD_signExtend_setWidth {w k : Nat} (p : QWord) (hpos : 0 < w) (hk : k < 64) :
    ((p.setWidth w).signExtend 64).getLsbD k = if k < w then p.getLsbD k else p.getLsbD (w - 1) := by
  rw [BitVec.getLsbD_signExtend, BitVec.msb_eq_getLsbD_last, BitVec.getLsbD_setWidth, BitVec.getLsbD_setWidth]
  by_cases hkw : k < w
  · simp [hk, hkw]
  · simp [hk, hkw, hpos]

/-- An address is canonical exactly when its bits from `w - 1` on are all its bit 63. -/
theorem canonicalAt_iff {w : Nat} {la : QWord} (hpos : 0 < w) (hw : w ≤ 64) :
    canonicalAt w la = true ↔ ∀ k < 64, w - 1 ≤ k → la.getLsbD k = la.msb := by
  rw [canonicalAt, beq_iff_eq, BitVec.msb_eq_getLsbD_last]
  constructor
  · intro hext
    have hhigh (k : Nat) (hk : k < 64) (hwk : w - 1 ≤ k) : la.getLsbD k = la.getLsbD (w - 1) := by
      have hbit := getLsbD_signExtend_setWidth la hpos hk
      rw [hext] at hbit
      split_ifs at hbit with hkw
      · rw [show k = w - 1 by omega]
      · exact hbit
    exact fun k hk hwk => (hhigh k hk hwk).trans (hhigh 63 (by omega) (by omega)).symm
  · intro hhigh
    refine BitVec.eq_of_getLsbD_eq fun k hk => ?_
    rw [getLsbD_signExtend_setWidth la hpos hk]
    split_ifs with hkw
    · rfl
    · rw [hhigh k hk (by omega), hhigh (w - 1) (by omega) le_rfl]

/-! ## LAM -/

/-- The width of linear addresses, `LA_WIDTH` (20_memory R96). -/
def State.laWidth (s : State) : Nat := if s.la57 then 57 else 48

theorem State.canonical_eq (s : State) (la : QWord) : s.canonical la = canonicalAt s.laWidth la := rfl

theorem State.laWidth_bounds (s : State) : 0 < s.laWidth ∧ s.laWidth ≤ 64 := by
  unfold State.laWidth
  split <;> decide

/-- How many low bits of a pointer the controls of its half leave to it; 64 where LAM is off (20_memory R101, R109). -/
def lamWidth (s : State) (p : QWord) : Nat :=
  if p.msb then
    (if s.enclave = false ∧ s.cr4.getLsbD 28 = true then (if s.cr4.getLsbD 12 then 57 else 48) else 64)
  else if (if s.enclave then s.secsLamU57 else s.cr3.getLsbD 61) then 57
  else if (if s.enclave then s.secsLamU48 else s.cr3.getLsbD 62) then 48 else 64

section
variable {s : State} {p la : QWord}

theorem lamWidth_bounds : 48 ≤ lamWidth s p ∧ lamWidth s p ≤ 64 := by
  unfold lamWidth
  split_ifs <;> decide

/-- How a pointer passes the check, by the width that LAM leaves to it. -/
theorem lamCheckAndMask_cases (h : lamCheckAndMask s p = some la) :
    (lamWidth s p = 57 ∧ la = (p.setWidth 57).signExtend 64 ∧
      (s.la57 = true ∧ p.getLsbD 56 = p.msb ∨
        s.la57 = false ∧ p.extractLsb' 47 10 = if p.msb then BitVec.allOnes 10 else 0)) ∨
    (lamWidth s p = 48 ∧ la = (p.setWidth 48).signExtend 64 ∧ p.getLsbD 47 = p.msb) ∨
    (lamWidth s p = 64 ∧ la = p ∧ s.canonical p = true) := by
  unfold lamCheckAndMask at h
  unfold lamWidth
  cases hmsb : p.msb
  case false =>
    simp only [hmsb, Bool.false_eq_true, if_false] at h ⊢
    split_ifs at h ⊢ <;> simp_all
  case true =>
    simp only [hmsb, if_true, State.la57] at h ⊢
    split_ifs at h ⊢ <;> simp_all

/-- Ten bits from bit 47 on that are all `b`. -/
theorem getLsbD_of_extractLsb'_eq {b : Bool} {k : Nat}
    (h : p.extractLsb' 47 10 = if b then BitVec.allOnes 10 else 0) (hk : 47 ≤ k) (hk' : k < 57) : p.getLsbD k = b := by
  have hbit := congrArg (fun x : BitVec 10 => x.getLsbD (k - 47)) h
  simp only [BitVec.getLsbD_extractLsb', show k - 47 < 10 by omega, decide_true, Bool.true_and,
    Nat.add_sub_cancel' hk] at hbit
  rw [hbit]
  cases b
  · simp
  · simp only [if_true, BitVec.getLsbD_allOnes, show k - 47 < 10 by omega, decide_true]

/-- A pointer that passes the check is extended from the last bit that LAM leaves to it, and its bits from there down to
the last one of a canonical address are its bit 63 (20_memory R101, R102). -/
theorem lamCheckAndMask_eq_some (h : lamCheckAndMask s p = some la) :
    la = (p.setWidth (lamWidth s p)).signExtend 64 ∧
      ∀ k < lamWidth s p, min s.laWidth (lamWidth s p) - 1 ≤ k → p.getLsbD k = p.msb := by
  obtain ⟨hwidth, hla, ⟨hla57, htop⟩ | ⟨hla57, htop⟩⟩ | ⟨hwidth, hla, htop⟩ | ⟨hwidth, hla, hcanon⟩ :=
    lamCheckAndMask_cases h <;> rw [hwidth]
  · refine ⟨hla, fun k hk hmin => ?_⟩
    rw [State.laWidth, if_pos hla57] at hmin
    rwa [show k = 56 by omega]
  · refine ⟨hla, fun k hk hmin => getLsbD_of_extractLsb'_eq htop ?_ hk⟩
    rw [State.laWidth, if_neg (by simp [hla57])] at hmin
    omega
  · refine ⟨hla, fun k hk hmin => ?_⟩
    have hk47 : k = 47 := by
      unfold State.laWidth at hmin
      split at hmin <;> omega
    rwa [hk47]
  · obtain ⟨hpos, hle⟩ := s.laWidth_bounds
    rw [State.canonical_eq, canonicalAt_iff hpos hle] at hcanon
    exact ⟨by simp [hla], fun k hk hmin => hcanon k hk (by omega)⟩

/-- Every bit that LAM masks is the pointer's bit 63, every other bit is the pointer's own (20_memory R102). -/
theorem getLsbD_of_lamCheckAndMask (h : lamCheckAndMask s p = some la) {k : Nat} (hk : k < 64) :
    la.getLsbD k = if k < lamWidth s p then p.getLsbD k else p.msb := by
  obtain ⟨rfl, htop⟩ := lamCheckAndMask_eq_some h
  obtain ⟨hge, hle⟩ := lamWidth_bounds (s := s) (p := p)
  rw [getLsbD_signExtend_setWidth p (by omega) hk, htop (lamWidth s p - 1) (by omega) (by omega)]

/-- What passes the check is canonical (20_memory R96). -/
theorem canonical_of_lamCheckAndMask (h : lamCheckAndMask s p = some la) : s.canonical la = true := by
  obtain ⟨-, htop⟩ := lamCheckAndMask_eq_some h
  obtain ⟨hpos, hle⟩ := s.laWidth_bounds
  have hhigh (k : Nat) (hk : k < 64) (hwk : s.laWidth - 1 ≤ k) : la.getLsbD k = p.msb := by
    rw [getLsbD_of_lamCheckAndMask h hk]
    split_ifs with hkw
    · exact htop k hkw (by omega)
    · rfl
  rw [State.canonical_eq, canonicalAt_iff hpos hle, BitVec.msb_eq_getLsbD_last]
  exact fun k hk hwk => (hhigh k hk hwk).trans (hhigh 63 (by omega) (by omega)).symm

/-! ## LASS -/

/-- LASS allows an explicit data access at CPL 3 to the user half only (20_memory R114 to R116). -/
theorem lassData_user (hlass : s.cr4.getLsbD 27 = true) (hlma : s.lma = true) (hcpl : s.cpl = 3) :
    lassData s false la = !la.msb := by
  simp [lassData, hlass, hlma, hcpl]

theorem State.lma_of_in64 (h : s.in64 = true) : s.lma = true := by
  rw [State.lma, ← State.in64, h, Bool.true_or]

/-- An access that LASS does not allow stops there: neither alignment nor translation plays a part (20_memory R95). -/
theorem access_of_lassData_eq_false {p : Pointer} {n : Nat} {kind : AccessKind} {implicit : Bool} {align : Nat}
    {misaligned : Stop} (hla : linearOf s p n = .ok la) (hlass : lassData s implicit la = false) :
    access s p n kind implicit align misaligned = .error p.violation :=
  bind_eq_error.mpr (.inr ⟨la, hla, bind_eq_error.mpr (.inl (need_eq_error.mpr ⟨hlass, rfl⟩))⟩)

end

/-- Settles O55: a pointer that passes is extended from the last bit LAM leaves to it, and has its bit 63 from there down
to the last bit of a canonical address. -/
theorem lamGivesCanonical : Obligations.LamGivesCanonical := by
  unfold Obligations.LamGivesCanonical
  intro s p la width hla hwidth
  obtain rfl : width = lamWidth s p := hwidth
  exact ⟨canonical_of_lamCheckAndMask hla, fun k hk => getLsbD_of_lamCheckAndMask hla hk⟩

/-- Settles O56: at CPL 3 LASS decides by bit 63, and its check comes before translation. -/
theorem lassStopsUserData : Obligations.LassStopsUserData := by
  unfold Obligations.LassStopsUserData
  intro s p n kind align x la hlass h64 hcpl hla
  have hallowed : lassData s false la = !la.msb := lassData_user hlass (State.lma_of_in64 h64) hcpl
  refine ⟨fun hmsb => ?supervisor, fun hmsb => ?user⟩
  case supervisor => exact access_of_lassData_eq_false hla (by rw [hallowed, hmsb, Bool.not_true])
  case user => rw [hallowed, hmsb, Bool.not_false]

end Sys2Proof.Machine

/-! ## Decoding and encoding (30_encoding) -/

namespace Sys2Proof

/-! ## Fields of an encoding -/

@[simp] theorem regOf_regExt_regLo (r : RegNum) : regOf (regExt r) (regLo r) = r := by
  revert r; decide

@[simp] theorem modOf_mkModRM (a : BitVec 2) (b c : BitVec 3) : modOf (mkModRM a b c) = a := by
  rw [modOf, mkModRM, BitVec.append_assoc, BitVec.cast_eq]
  exact BitVec.extractLsb'_append_eq_left

@[simp] theorem midOf_mkModRM (a : BitVec 2) (b c : BitVec 3) : midOf (mkModRM a b c) = b := by
  rw [midOf, mkModRM, BitVec.extractLsb'_append_eq_of_le (by decide)]
  exact BitVec.extractLsb'_append_eq_right

@[simp] theorem lowOf_mkModRM (a : BitVec 2) (b c : BitVec 3) : lowOf (mkModRM a b c) = c :=
  BitVec.extractLsb'_append_eq_right

/-- The bytes of a 32-bit field read back as the field (30_encoding R140). -/
@[simp] theorem le32_extractLsb' (d : DWord) :
    le32 (d.extractLsb' 0 8) (d.extractLsb' 8 8) (d.extractLsb' 16 8) (d.extractLsb' 24 8) = d := by
  rw [le32, BitVec.extractLsb'_append_extractLsb'_eq_extractLsb' (show 24 = 16 + 8 from rfl),
    BitVec.extractLsb'_append_extractLsb'_eq_extractLsb' (show 16 = 8 + 8 from rfl),
    BitVec.extractLsb'_append_extractLsb'_eq_extractLsb' (show 8 = 0 + 8 from rfl)]
  exact BitVec.extractLsb'_eq_self

theorem isRex_mkRex (w r x b : Bool) : isRex (mkRex w r x b) = true := by
  revert w r x b; decide

theorem rexBits_mkRex (w r x b : Bool) : rexBits (mkRex w r x b) = ⟨w, r, x, b⟩ := by
  revert w r x b; decide

/-- The fields of the first payload byte, P1, of a VEX encoding (30_encoding R138). -/
theorem vexP1_fields (r x b : Bool) (map : BitVec 5) :
    let p1 : Byte := BitVec.ofBool (!r) ++ BitVec.ofBool (!x) ++ BitVec.ofBool (!b) ++ map
    p1.extractLsb' 0 5 = map ∧ p1.getLsbD 7 = !r ∧ p1.getLsbD 6 = !x ∧ p1.getLsbD 5 = !b := by
  revert r x b map
  decide

/-- The fields of the second payload byte, P2, of a VEX encoding (30_encoding R138). -/
theorem vexP2_fields (w l : Bool) (v : RegNum) (pp : BitVec 2) :
    let p2 : Byte := BitVec.ofBool w ++ ~~~v ++ BitVec.ofBool l ++ pp
    p2.extractLsb' 0 2 = pp ∧ p2.extractLsb' 2 1 = BitVec.ofBool l ∧ ~~~(p2.extractLsb' 3 4) = v ∧
      p2.extractLsb' 7 1 = BitVec.ofBool w ∧ p2.getLsbD 7 = w := by
  revert w l v pp
  decide

/-! ## Legacy bytes -/

/-- The legacy bytes that may stand in front of an opcode (30_encoding R132). -/
def legacyBytes : List Byte := [0xF0, 0xF2, 0xF3, 0x66, 0x67, 0x26, 0x2E, 0x36, 0x3E, 0x64, 0x65]

theorem pfxStep_eq_none {m64 : Bool} {p : LegacyPfx} {b : Byte} (hb : b ∉ legacyBytes) : pfxStep m64 p b = none := by
  simp only [legacyBytes, List.mem_cons, List.not_mem_nil, or_false, not_or] at hb
  simp only [pfxStep, hb, if_false]

theorem splitPfx_of_not_mem {m64 : Bool} {p : LegacyPfx} {b : Byte} {bs : List Byte} (hb : b ∉ legacyBytes) :
    splitPfx m64 p (b :: bs) = (p, b :: bs) := by
  simp only [splitPfx, pfxStep_eq_none hb]

/-- Where some bytes are all legacy bytes, the collection goes on behind them. -/
theorem splitPfx_append {m64 : Bool} {pre : List Byte} {p q : LegacyPfx} (hpre : splitPfx m64 p pre = (q, []))
    (bs : List Byte) : splitPfx m64 p (pre ++ bs) = splitPfx m64 q bs := by
  induction pre generalizing p with
  | nil => cases hpre; rfl
  | cons b pre ih =>
    rw [List.cons_append]
    cases hb : pfxStep m64 p b with
    | none => simp [splitPfx, hb] at hpre
    | some p' =>
      simp only [splitPfx, hb] at hpre ⊢
      exact ih hpre

theorem splitPfx_length (m64 : Bool) (p : LegacyPfx) (bs : List Byte) : (splitPfx m64 p bs).2.length ≤ bs.length := by
  induction bs generalizing p with
  | nil => rfl
  | cons b rest ih =>
    rw [splitPfx]
    split
    next q _ => exact (ih q).trans (Nat.le_succ _)
    · rfl

/-- No legacy byte takes LOCK away (30_encoding R132). -/
theorem pfxStep_lock {m64 : Bool} {p q : LegacyPfx} {b : Byte} (h : pfxStep m64 p b = some q) (hp : p.lock = true) :
    q.lock = true := by
  by_cases hb : b ∈ legacyBytes
  · simp only [legacyBytes, List.mem_cons, List.not_mem_nil, or_false] at hb
    rcases hb with rfl | hb
    · cases h
      rfl
    · rcases hb with rfl | rfl | rfl | rfl | rfl | rfl | rfl | rfl | rfl | rfl <;>
      · cases h
        exact hp
  · rw [pfxStep_eq_none hb] at h
    cases h

theorem splitPfx_lock {m64 : Bool} {p : LegacyPfx} (hp : p.lock = true) (bs : List Byte) :
    (splitPfx m64 p bs).1.lock = true := by
  induction bs generalizing p with
  | nil => exact hp
  | cons b rest ih =>
    rw [splitPfx]
    split
    next q hq => exact ih (pfxStep_lock hq hp)
    · exact hp

theorem mkRex_not_mem (w r x b : Bool) : mkRex w r x b ∉ legacyBytes := by
  revert w r x b; decide

/-- What the decoder has seen after the bytes in front of a memory operand's instruction. -/
def memSeen (m : MemOp) : LegacyPfx := { noPfx with seg := m.seg, p67 := m.addr32 }

theorem splitPfx_memPfx (m : MemOp) : splitPfx true noPfx (memPfx m) = (memSeen m, []) := by
  obtain ⟨seg, addr32, ea⟩ := m
  cases seg with
  | none => cases addr32 <;> rfl
  | some x => cases x <;> cases addr32 <;> rfl

/-- What the decoder has seen after the bytes in front of a register-or-memory operand's instruction. -/
def rmSeen : RM → LegacyPfx
  | .reg _ => noPfx
  | .mem m => memSeen m

theorem splitPfx_rmPfx (o : RM) : splitPfx true noPfx (rmPfx o) = (rmSeen o, []) := by
  cases o with
  | reg r => rfl
  | mem m => exact splitPfx_memPfx m

/-! ## ModRM, SIB and displacement -/

theorem takeDisp_two (d : DWord) (rest : List Byte) : takeDisp 2#2 (bytes32 d ++ rest) = some (d, rest) := by
  simp [takeDisp, bytes32]

/-- A well-formed index and its scale come back from their fields, where RSP stands for no index (30_encoding R137). -/
theorem index_scale_of_wf {b i : Option RegNum} {s : BitVec 2} {d : DWord} (h : (EffAddr.sib b i s d).wf = true) :
    (if indexNum i = 4#4 then none else some (indexNum i)) = i ∧ (if indexNum i = 4#4 then 0#2 else s) = s := by
  cases i <;> simp_all [EffAddr.wf, indexNum]

theorem takeEffAddr_tail {ea : EffAddr} (hwf : ea.wf = true) (reg : BitVec 3) :
    ∃ mb t, ea.tail reg = mb :: t ∧ midOf mb = reg ∧ modOf mb ≠ 3#2 ∧ ∀ (w r : Bool) (rest : List Byte),
      takeEffAddr true ⟨w, r, ea.extX, ea.extB⟩ (modOf mb) (lowOf mb) (t ++ rest) = some (ea, rest) := by
  rcases ea with d | ⟨b, i, s, d⟩
  case ripRel =>
    refine ⟨_, _, rfl, by simp, by simp, fun w r rest => ?_⟩
    simp [takeEffAddr, takeDisp_two]
  case sib =>
    obtain ⟨hindex, hscale⟩ := index_scale_of_wf hwf
    cases b with
    | none =>
      refine ⟨_, _, rfl, by simp, by simp, fun w r rest => ?_⟩
      simp [takeEffAddr, takeDisp_two, EffAddr.extX, hindex, hscale]
    | some b =>
      refine ⟨_, _, rfl, by simp, by simp, fun w r rest => ?_⟩
      simp [takeEffAddr, takeDisp_two, EffAddr.extX, EffAddr.extB, hindex, hscale]

/-- The memory operand that follows the opcode of a well-formed instruction is read back (30_encoding R137). -/
theorem withMem_tail {m : MemOp} (hwf : m.wf = true) (reg : BitVec 3) :
    ∃ mb t, m.ea.tail reg = mb :: t ∧ midOf mb = reg ∧ modOf mb ≠ 3#2 ∧
      ∀ (d32 : Bool) (p : LegacyPfx) (w r : Bool) (rest : List Byte) (k : MemOp → List Byte → Decoded),
        p.seg = m.seg → p.p67 = m.addr32 →
          withMem ⟨true, d32⟩ p ⟨w, r, m.ea.extX, m.ea.extB⟩ mb (t ++ rest) k = k m rest := by
  obtain ⟨mb, t, htail, hmid, hmod, htake⟩ := takeEffAddr_tail hwf reg
  refine ⟨mb, t, htail, hmid, hmod, fun d32 p w r rest k hseg h67 => ?_⟩
  simp [withMem, htake, hseg, h67]

/-- The register-or-memory operand that follows the opcode of a well-formed instruction is read back
(30_encoding R136). -/
theorem withRM_tail {o : RM} (hwf : o.wf = true) (reg : BitVec 3) :
    ∃ mb t, o.tail reg = mb :: t ∧ midOf mb = reg ∧
      ∀ (d32 w r : Bool) (rest : List Byte) (k : RM → List Byte → Decoded),
        withRM ⟨true, d32⟩ (rmSeen o) ⟨w, r, o.extX, o.extB⟩ mb (t ++ rest) k = k o rest := by
  cases o with
  | reg n =>
    refine ⟨_, _, rfl, by simp, fun d32 w r rest k => ?_⟩
    simp [withRM, RM.extB]
  | mem m =>
    obtain ⟨mb, t, htail, hmid, hmod, hmem⟩ := withMem_tail hwf reg
    refine ⟨mb, t, htail, hmid, fun d32 w r rest k => ?_⟩
    simp [withRM, hmod, RM.extX, RM.extB, rmSeen, memSeen, hmem]

/-! ## From the first byte to the operands -/

/-- In 64-bit mode the encoding of `i` decodes to `i`, whole, whatever bytes follow it. -/
def RoundTrips (i : Instr) : Prop :=
  ∀ (d32 : Bool) (rest : List Byte), decode ⟨true, d32⟩ (encode i ++ rest) = .instr i (encode i).length

theorem legacyDone_of_allowed {total : Nat} {p : LegacyPfx} {rest : List Byte} {d : Nat → Decoded}
    (hone : p.several = false) (hlock : p.lock = false) : legacyDone total p rest d = d (total - rest.length) := by
  simp [legacyDone, hone, hlock]

/-- Behind legacy bytes, the first byte that is none decides (30_encoding R130). -/
theorem decode_of_splitPfx {d32 : Bool} {pre bs : List Byte} {p : LegacyPfx} {b : Byte}
    (hpre : splitPfx true noPfx pre = (p, [])) (hb : b ∉ legacyBytes) :
    decode ⟨true, d32⟩ (pre ++ b :: bs) = decodeFrom ⟨true, d32⟩ (pre ++ b :: bs).length p (b :: bs) := by
  rw [decode, splitPfx_append hpre, splitPfx_of_not_mem hb]

/-- A REX byte and an escape byte lead to the legacy opcodes (30_encoding R130, R134). -/
theorem decodeFrom_mkRex (d32 w r x b : Bool) (total : Nat) (p : LegacyPfx) (bs : List Byte) :
    decodeFrom ⟨true, d32⟩ total p (mkRex w r x b :: 0x0F :: bs) =
      decodeLegacy ⟨true, d32⟩ total p ⟨w, r, x, b⟩ (0x0F :: bs) := by
  have hplain : isPrefixByte 0x0F = false := rfl
  simp only [decodeFrom, isRex_mkRex, decodeRex, List.dropWhile_cons, List.takeWhile_cons, hplain, rexBits_mkRex,
    Bool.and_self, if_true]
  rfl

/-- The opcode table has a row of operand form `f` for these fields of the VEX bytes and this opcode
(30_encoding R139). -/
abbrev VexRowIs (map : BitVec 5) (pp : BitVec 2) (w l : Bool) (op : Byte) (f : VexForm) : Prop :=
  vexFind map.toNat pp.toNat op.toNat (BitVec.ofBool w).toNat (BitVec.ofBool l).toNat = .row f

/-- The VEX bytes lead to the operands of its row (30_encoding R138, R139). -/
theorem decodeFrom_vexHead {map : BitVec 5} {pp : BitVec 2} {w l : Bool} {op : Byte} {f : VexForm} {p : LegacyPfx}
    (hrow : VexRowIs map pp w l op f) (hlock : p.lock = false) (hnp : p.np = true) (d32 r x b : Bool) (total : Nat)
    (v : RegNum) (mb : Byte) (bs : List Byte) :
    decodeFrom ⟨true, d32⟩ total p (vexHead map pp w l r x b v op ++ mb :: bs) =
      vexOperands ⟨true, d32⟩ total p ⟨w, r, x, b⟩ v f mb bs := by
  obtain ⟨hmap, hr, hx, hb⟩ := vexP1_fields r x b map
  obtain ⟨hpp, hl, hv, hw, hw'⟩ := vexP2_fields w l v pp
  calc decodeFrom ⟨true, d32⟩ total p (vexHead map pp w l r x b v op ++ mb :: bs)
    _ = decodeVex ⟨true, d32⟩ total p true (vexHead map pp w l r x b v op ++ mb :: bs).tail := rfl
    _ = decodeVex3 ⟨true, d32⟩ total p (vexHead map pp w l r x b v op ++ mb :: bs).tail := by
      simp [decodeVex, vexHead, hlock, hnp]
    _ = vexOperands ⟨true, d32⟩ total p ⟨w, r, x, b⟩ v f mb bs := by
      simp only [decodeVex3, vexHead, List.cons_append, List.nil_append, List.tail_cons, hmap, hpp, hl, hw, hv, hrow,
        vexBits, hr, hx, hb, hw', Bool.not_not, Bool.true_and]

/-! ## VEX instructions -/

section
variable {map : BitVec 5} {pp : BitVec 2} {w l : Bool} {op : Byte}

theorem rmSeen_np (o : RM) : (rmSeen o).lock = false ∧ (rmSeen o).np = true := by
  cases o <;> exact ⟨rfl, rfl⟩

/-- The encoding of a VEX instruction leads to the operands of its row. -/
theorem decode_encVexRM {f : VexForm} {reg : RegNum} {o : RM} {mb : Byte} {t : List Byte}
    (hrow : VexRowIs map pp w l op f)
    (htail : o.tail (regLo reg) = mb :: t) (v : RegNum) (d32 : Bool) (rest : List Byte) :
    decode ⟨true, d32⟩ (encVexRM map pp w l op reg v o ++ rest) =
      vexOperands ⟨true, d32⟩ ((encVexRM map pp w l op reg v o).length + rest.length) (rmSeen o)
        ⟨w, regExt reg, o.extX, o.extB⟩ v f mb (t ++ rest) := by
  obtain ⟨hlock, hnp⟩ := rmSeen_np o
  have hbytes : encVexRM map pp w l op reg v o ++ rest =
      rmPfx o ++ (vexHead map pp w l (regExt reg) o.extX o.extB v op ++ mb :: (t ++ rest)) := by
    simp [encVexRM, htail]
  rw [← List.length_append, hbytes]
  exact (decode_of_splitPfx (splitPfx_rmPfx o) (by decide)).trans (decodeFrom_vexHead hrow hlock hnp ..)

/-! ### One lemma for each operand form -/

theorem roundTrips_rm {mk : RegNum → RM → Instr} {d : RegNum} {o : RM} (ho : o.wf = true)
    (henc : encode (mk d o) = encVexRM map pp w l op d 0 o)
    (hrow : VexRowIs map pp w l op (.rm mk)) :
    RoundTrips (mk d o) := by
  intro d32 rest
  obtain ⟨mb, t, htail, hmid, hrm⟩ := withRM_tail ho (regLo d)
  rw [henc, decode_encVexRM hrow htail]
  simp [vexOperands, hrm, hmid]

theorem roundTrips_rvm {mk : RegNum → RegNum → RM → Instr} {d a : RegNum} {o : RM} (ho : o.wf = true)
    (henc : encode (mk d a o) = encVexRM map pp w l op d a o)
    (hrow : VexRowIs map pp w l op (.rvm mk)) :
    RoundTrips (mk d a o) := by
  intro d32 rest
  obtain ⟨mb, t, htail, hmid, hrm⟩ := withRM_tail ho (regLo d)
  rw [henc, decode_encVexRM hrow htail]
  simp [vexOperands, hrm, hmid]

theorem roundTrips_rvmi {mk : RegNum → RegNum → RM → Byte → Instr} {d a : RegNum} {o : RM} {imm : Byte}
    (ho : o.wf = true) (henc : encode (mk d a o imm) = encVexRM map pp w l op d a o ++ [imm])
    (hrow : VexRowIs map pp w l op (.rvmi mk)) :
    RoundTrips (mk d a o imm) := by
  intro d32 rest
  obtain ⟨mb, t, htail, hmid, hrm⟩ := withRM_tail ho (regLo d)
  rw [henc, List.append_assoc, decode_encVexRM hrow htail]
  simp [vexOperands, hrm, hmid, ← Nat.add_assoc, Nat.add_right_comm]

theorem roundTrips_rmMem {mk : RegNum → MemOp → Instr} {d : RegNum} {m : MemOp} (hm : m.wf = true)
    (henc : encode (mk d m) = encVexRM map pp w l op d 0 (.mem m))
    (hrow : VexRowIs map pp w l op (.rmMem mk)) :
    RoundTrips (mk d m) := by
  intro d32 rest
  obtain ⟨mb, t, htail, hmid, hmod, hmem⟩ := withMem_tail hm (regLo d)
  rw [henc, decode_encVexRM (o := .mem m) hrow htail]
  simp [vexOperands, RM.extX, RM.extB, rmSeen, memSeen, hmem, hmid, hmod]

theorem roundTrips_mrv {mk : MemOp → RegNum → RegNum → Instr} {m : MemOp} {a b : RegNum} (hm : m.wf = true)
    (henc : encode (mk m a b) = encVexRM map pp w l op a b (.mem m))
    (hrow : VexRowIs map pp w l op (.mrv mk)) :
    RoundTrips (mk m a b) := by
  intro d32 rest
  obtain ⟨mb, t, htail, hmid, hmod, hmem⟩ := withMem_tail hm (regLo a)
  rw [henc, decode_encVexRM (o := .mem m) hrow htail]
  simp [vexOperands, RM.extX, RM.extB, rmSeen, memSeen, hmem, hmid, hmod]

theorem roundTrips_rmReg {mk : RegNum → RegNum → Instr} {d b : RegNum}
    (henc : encode (mk d b) = encVexRM map pp w l op d 0 (.reg b))
    (hrow : VexRowIs map pp w l op (.rmReg mk)) :
    RoundTrips (mk d b) := by
  intro d32 rest
  rw [henc, decode_encVexRM hrow rfl]
  simp [vexOperands, RM.extB]

theorem roundTrips_rvmReg {mk : RegNum → RegNum → RegNum → Instr} {d a b : RegNum}
    (henc : encode (mk d a b) = encVexRM map pp w l op d a (.reg b))
    (hrow : VexRowIs map pp w l op (.rvmReg mk)) :
    RoundTrips (mk d a b) := by
  intro d32 rest
  rw [henc, decode_encVexRM hrow rfl]
  simp [vexOperands, RM.extB]

/-- The tile forms, whose three tiles exist (30_encoding R144). -/
theorem roundTrips_tile {mk : RegNum → RegNum → RegNum → Instr} {d a b : RegNum}
    (htiles : (tileWf d && tileWf a && tileWf b) = true)
    (henc : encode (mk d a b) = encVexRM map pp w l op d b (.reg a))
    (hrow : VexRowIs map pp w l op (.tile mk)) :
    RoundTrips (mk d a b) := by
  simp only [tileWf, Bool.and_eq_true, decide_eq_true_eq, Nat.lt_succ_iff] at htiles
  obtain ⟨⟨hd, ha⟩, hb⟩ := htiles
  intro d32 rest
  rw [henc, decode_encVexRM hrow rfl]
  simp [vexOperands, RM.extB, hd, ha, hb]

/-- The forms with an immediate MSR address (30_encoding R140, R154). -/
theorem roundTrips_m7 {mk : RegNum → DWord → Instr} {r : RegNum} {imm : DWord}
    (henc : encode (mk r imm) = encVexRM map pp w l op 0 0 (.reg r) ++ bytes32 imm)
    (hrow : VexRowIs map pp w l op (.m7 mk)) : RoundTrips (mk r imm) := by
  intro d32 rest
  rw [henc, List.append_assoc, decode_encVexRM hrow rfl]
  have hlo : regLo 0#4 = 0#3 := rfl
  have hlen (n : Nat) : n + (rest.length + 1 + 1 + 1 + 1) - rest.length = n + 4 := by omega
  simp [vexOperands, RM.extB, withImm32, bytes32, hlo, hlen]

end

/-! ## Legacy instructions -/

/-- After the bytes in front of a memory operand's instruction and the mandatory bytes `mand`, the decoder has seen
`p`: at most one of 66, F2, F3, no LOCK, and what belongs to the operand. -/
structure MandSeen (m : MemOp) (mand : List Byte) (p : LegacyPfx) : Prop where
  read : splitPfx true (memSeen m) mand = (p, [])
  several : p.several = false
  lock : p.lock = false
  seg : p.seg = m.seg
  p67 : p.p67 = m.addr32

theorem mandSeen_np (m : MemOp) : MandSeen m [] (memSeen m) := ⟨rfl, rfl, rfl, rfl, rfl⟩

theorem mandSeen_66 (m : MemOp) : MandSeen m [0x66] { memSeen m with p66 := true, mandLast := true } :=
  ⟨rfl, rfl, rfl, rfl, rfl⟩

theorem mandSeen_F2 (m : MemOp) : MandSeen m [0xF2] { memSeen m with pF2 := true, mandLast := true } :=
  ⟨rfl, rfl, rfl, rfl, rfl⟩

theorem mandSeen_F3 (m : MemOp) : MandSeen m [0xF3] { memSeen m with pF3 := true, mandLast := true } :=
  ⟨rfl, rfl, rfl, rfl, rfl⟩

theorem decode_encLegacyMem {m : MemOp} {mand : List Byte} {p : LegacyPfx} (hp : MandSeen m mand p) (w : Bool)
    (ops : List Byte) (reg : RegNum) (d32 : Bool) (rest : List Byte) :
    decode ⟨true, d32⟩ (encLegacyMem mand w (0x0F :: ops) reg m ++ rest) =
      decodeLegacy ⟨true, d32⟩ ((encLegacyMem mand w (0x0F :: ops) reg m).length + rest.length) p
        ⟨w, regExt reg, m.ea.extX, m.ea.extB⟩ (0x0F :: (ops ++ m.ea.tail (regLo reg) ++ rest)) := by
  have hpre : splitPfx true noPfx (memPfx m ++ mand) = (p, []) :=
    (splitPfx_append (splitPfx_memPfx m) mand).trans hp.read
  have hbytes : encLegacyMem mand w (0x0F :: ops) reg m ++ rest = memPfx m ++ mand ++
      mkRex w (regExt reg) m.ea.extX m.ea.extB :: 0x0F :: (ops ++ m.ea.tail (regLo reg) ++ rest) := by
    simp [encLegacyMem]
  rw [← List.length_append, hbytes]
  exact (decode_of_splitPfx hpre (mkRex_not_mem _ _ _ _)).trans (decodeFrom_mkRex ..)

/-- The remote atomic operations (30_encoding R151). -/
theorem roundTrips_rao {mk : MemOp → RegNum → Instr} {m : MemOp} {src : RegNum} {mand : List Byte} {p : LegacyPfx}
    {w : Bool} (hm : m.wf = true) (hp : MandSeen m mand p)
    (henc : encode (mk m src) = encLegacyMem mand w [0x0F, 0x38, 0xFC] src m) (hmk : raoOf p w = some mk) :
    RoundTrips (mk m src) := by
  intro d32 rest
  obtain ⟨mb, t, htail, hmid, hmod, hmem⟩ := withMem_tail hm (regLo src)
  rw [henc, decode_encLegacyMem hp, htail]
  simp [decodeLegacy, decode0F38, hp.several, hmk, hmod, hmem, hp.seg, hp.p67, legacyDone_of_allowed hp.several hp.lock,
    hmid]

/-- The prefetch hints (30_encoding R156). -/
theorem roundTrips_prefetch {mk : MemOp → Instr} {m : MemOp} {reg : RegNum} (hm : m.wf = true)
    (henc : encode (mk m) = encLegacyMem [] false [0x0F, 0x18] reg m) (hmk : prefetchOf (regLo reg) = some mk) :
    RoundTrips (mk m) := by
  intro d32 rest
  have hp := mandSeen_np m
  obtain ⟨mb, t, htail, hmid, hmod, hmem⟩ := withMem_tail hm (regLo reg)
  rw [henc, decode_encLegacyMem hp, htail]
  simp [decodeLegacy, decode0F18, hmod, hmem, hp.seg, hp.p67, legacyDone_of_allowed hp.several hp.lock, hmid, hmk]

/-- The register forms of URDMSR and UWRMSR (30_encoding R154). -/
theorem decode_encLegacyRR {mand : List Byte} {p : LegacyPfx} (hread : splitPfx true noPfx mand = (p, []))
    (hone : p.several = false) (hlock : p.lock = false) (hmand : p.mandF2 = true ∨ p.mandF3 = true) (reg rm : RegNum)
    (d32 : Bool) (rest : List Byte) :
    decode ⟨true, d32⟩ (encLegacyRR mand [0x0F, 0x38, 0xF8] reg rm ++ rest) =
      .instr (if p.pF2 then .urdmsrReg rm reg else .uwrmsrReg reg rm)
        (encLegacyRR mand [0x0F, 0x38, 0xF8] reg rm).length := by
  have hbytes : encLegacyRR mand [0x0F, 0x38, 0xF8] reg rm ++ rest =
      mand ++ mkRex false (regExt reg) false (regExt rm) :: 0x0F ::
        (0x38 :: 0xF8 :: mkModRM 3 (regLo reg) (regLo rm) :: rest) := by
    simp [encLegacyRR]
  have hlen := congrArg List.length hbytes
  rw [hbytes, decode_of_splitPfx hread (mkRex_not_mem _ _ _ _), decodeFrom_mkRex, ← hlen]
  have hnone : (!p.mandF2 && !p.mandF3) = false := by rcases hmand with h | h <;> simp [h]
  simp [decodeLegacy, decode0F38, hone, hnone, -Bool.and_eq_true, legacyDone_of_allowed hone hlock]

/-- The instructions without operands: an escape byte and the bytes after it, behind at most one of F2 and F3
(30_encoding R150, R153). -/
theorem roundTrips_fixed {i : Instr} {p : LegacyPfx} (hone : p.several = false) (hlock : p.lock = false)
    (hdec : ∀ (d32 : Bool) (rest : List Byte), decode ⟨true, d32⟩ (encode i ++ rest) =
      legacyDone (encode i ++ rest).length p rest (.instr i)) : RoundTrips i := by
  intro d32 rest
  rw [hdec, legacyDone_of_allowed hone hlock, List.length_append, Nat.add_sub_cancel]

/-- Every well-formed instruction: one operand form or one shape of legacy encoding for each. -/
theorem roundTrips_of_wf {i : Instr} (hwf : i.wf = true) : RoundTrips i := by
  cases i with
  | cpuid | pconfig | wrmsrns | pbndkb | mwait => exact roundTrips_fixed (p := noPfx) rfl rfl fun _ _ => rfl
  | rdmsrlist => exact roundTrips_fixed (p := { noPfx with pF2 := true, mandLast := true }) rfl rfl fun _ _ => rfl
  | wrmsrlist | uiret =>
    exact roundTrips_fixed (p := { noPfx with pF3 := true, mandLast := true }) rfl rfl fun _ _ => rfl
  | aadd32 m src | aadd64 m src => exact roundTrips_rao hwf (mandSeen_np m) rfl rfl
  | aand32 m src | aand64 m src => exact roundTrips_rao hwf (mandSeen_66 m) rfl rfl
  | aor32 m src | aor64 m src => exact roundTrips_rao hwf (mandSeen_F2 m) rfl rfl
  | axor32 m src | axor64 m src => exact roundTrips_rao hwf (mandSeen_F3 m) rfl rfl
  | urdmsrReg dst addr => exact decode_encLegacyRR (mand := [0xF2]) rfl rfl rfl (.inl rfl) addr dst
  | uwrmsrReg addr src => exact decode_encLegacyRR (mand := [0xF3]) rfl rfl rfl (.inr rfl) addr src
  | urdmsrImm dst imm => exact roundTrips_m7 rfl rfl
  | uwrmsrImm imm src => exact roundTrips_m7 (mk := fun r i => .uwrmsrImm i r) rfl rfl
  | cmpoxadd32 m a b | cmpoxadd64 m a b | cmpnoxadd32 m a b | cmpnoxadd64 m a b | cmpbxadd32 m a b | cmpbxadd64 m a b
  | cmpnbxadd32 m a b | cmpnbxadd64 m a b | cmpzxadd32 m a b | cmpzxadd64 m a b | cmpnzxadd32 m a b
  | cmpnzxadd64 m a b | cmpbexadd32 m a b | cmpbexadd64 m a b | cmpnbexadd32 m a b | cmpnbexadd64 m a b
  | cmpsxadd32 m a b | cmpsxadd64 m a b | cmpnsxadd32 m a b | cmpnsxadd64 m a b | cmppxadd32 m a b | cmppxadd64 m a b
  | cmpnpxadd32 m a b | cmpnpxadd64 m a b | cmplxadd32 m a b | cmplxadd64 m a b | cmpnlxadd32 m a b
  | cmpnlxadd64 m a b | cmplexadd32 m a b | cmplexadd64 m a b | cmpnlexadd32 m a b | cmpnlexadd64 m a b =>
    exact roundTrips_mrv hwf rfl rfl
  | vpdpbssd128 d a b | vpdpbssd256 d a b | vpdpbssds128 d a b | vpdpbssds256 d a b | vpdpbsud128 d a b
  | vpdpbsud256 d a b | vpdpbsuds128 d a b | vpdpbsuds256 d a b | vpdpbuud128 d a b | vpdpbuud256 d a b
  | vpdpbuuds128 d a b | vpdpbuuds256 d a b | vpdpwsud128 d a b | vpdpwsud256 d a b | vpdpwsuds128 d a b
  | vpdpwsuds256 d a b | vpdpwusd128 d a b | vpdpwusd256 d a b | vpdpwusds128 d a b | vpdpwusds256 d a b
  | vpdpwuud128 d a b | vpdpwuud256 d a b | vpdpwuuds128 d a b | vpdpwuuds256 d a b | vpmadd52huq128 d a b
  | vpmadd52huq256 d a b | vpmadd52luq128 d a b | vpmadd52luq256 d a b | vsm4key4128 d a b | vsm4key4256 d a b
  | vsm4rnds4128 d a b | vsm4rnds4256 d a b | vsm3msg1 d a b | vsm3msg2 d a b =>
    exact roundTrips_rvm hwf rfl rfl
  | vsm3rnds2 d a b imm => exact roundTrips_rvmi hwf rfl rfl
  | vcvtneps2bf16128 d b | vcvtneps2bf16256 d b => exact roundTrips_rm hwf rfl rfl
  | vcvtneebf162ps128 d m | vcvtneebf162ps256 d m | vcvtneeph2ps128 d m | vcvtneeph2ps256 d m | vcvtneobf162ps128 d m
  | vcvtneobf162ps256 d m | vcvtneoph2ps128 d m | vcvtneoph2ps256 d m | vbcstnebf162ps128 d m | vbcstnebf162ps256 d m
  | vbcstnesh2ps128 d m | vbcstnesh2ps256 d m =>
    exact roundTrips_rmMem hwf rfl rfl
  | vsha512rnds2 d a b => exact roundTrips_rvmReg rfl rfl
  | vsha512msg1 d b | vsha512msg2 d b => exact roundTrips_rmReg rfl rfl
  | tdpfp16ps d a b | tcmmimfp16ps d a b | tcmmrlfp16ps d a b => exact roundTrips_tile hwf rfl rfl
  | prefetchnta m | prefetcht0 m | prefetcht1 m | prefetcht2 m | prefetchit1 m | prefetchit0 m =>
    exact roundTrips_prefetch hwf rfl rfl

/-- Settles O1, by the shape of each instruction's encoding. -/
theorem decodeEncodeAgree : Obligations.DecodeEncodeAgree := by
  unfold Obligations.DecodeEncodeAgree
  intro i d32 rest hwf
  exact roundTrips_of_wf hwf d32 rest

/-! ## What the decoder can answer -/

/-- If the answer is an instruction, no LOCK byte was seen, the instruction is well-formed, and its length is at least
one byte and at most the `total` bytes of the input. -/
def Decoded.Sound (total : Nat) (p : LegacyPfx) (d : Decoded) : Prop :=
  ∀ i n, d = .instr i n → p.lock = false ∧ i.wf = true ∧ 1 ≤ n ∧ n ≤ total

section
variable {c : DecodeCtx} {total : Nat} {p : LegacyPfx} {e : ExtBits} {bs : List Byte}

theorem Decoded.sound_instr {i : Instr} {rest : List Byte} (hlock : p.lock = false) (hi : i.wf = true)
    (hlen : rest.length < total) : Decoded.Sound total p (.instr i (total - rest.length)) := by
  rintro _ _ ⟨⟩
  exact ⟨hlock, hi, by omega, by omega⟩

theorem Decoded.sound_nop (n : Nat) : Decoded.Sound total p (.nop n) := by rintro _ _ ⟨⟩
theorem Decoded.sound_registerHint (n : Nat) : Decoded.Sound total p (.registerHint n) := by rintro _ _ ⟨⟩
theorem Decoded.sound_undefined : Decoded.Sound total p .undefined := by rintro _ _ ⟨⟩
theorem Decoded.sound_incomplete : Decoded.Sound total p .incomplete := by rintro _ _ ⟨⟩
theorem Decoded.sound_refused (x : DecodeRefusal) : Decoded.Sound total p (.refused x) := by rintro _ _ ⟨⟩

/-- Behind a check that raises #UD. -/
theorem Decoded.sound_undefined_or {q : Prop} [Decidable q] {d : Decoded} (h : ¬q → d.Sound total p) :
    (if q then .undefined else d).Sound total p := by
  split_ifs with hq
  · exact Decoded.sound_undefined
  · exact h hq

/-- Behind a check that refuses. -/
theorem Decoded.sound_refused_or {q : Prop} [Decidable q] {x : DecodeRefusal} {d : Decoded}
    (h : ¬q → d.Sound total p) : (if q then .refused x else d).Sound total p := by
  split_ifs with hq
  · exact Decoded.sound_refused x
  · exact h hq

/-- 16-bit addressing leaves no instruction (30_encoding R131). -/
theorem Decoded.sound_narrowed (d : Decoded) : Decoded.Sound total p d.narrowed := by
  cases d <;> rintro _ _ ⟨⟩

/-! ### Operands -/

theorem takeDisp_length {md : BitVec 2} {d : DWord} {rest : List Byte} (h : takeDisp md bs = some (d, rest)) :
    rest.length ≤ bs.length := by
  unfold takeDisp at h
  split_ifs at h
  · cases h; rfl
  · split at h <;> cases h
    simp
  · split at h <;> cases h
    simp; omega

/-- The index and the scale that a SIB byte gives make a well-formed address (30_encoding R137). -/
theorem EffAddr.wf_of_sib (b : Option RegNum) (idx : RegNum) (s : BitVec 2) (d : DWord) :
    (EffAddr.sib b (if idx = 4 then none else some idx) (if idx = 4 then 0 else s) d).wf = true := by
  by_cases h : idx = 4
  · rw [if_pos h, if_pos h]
    rfl
  · rw [if_neg h, if_neg h]
    exact bne_iff_ne.mpr h

theorem takeDisp_map_sound {md : BitVec 2} {f : DWord → EffAddr} {ea : EffAddr} {rest : List Byte}
    (h : (takeDisp md bs).map (fun d => (f d.1, d.2)) = some (ea, rest)) (hf : ∀ d, (f d).wf = true) :
    ea.wf = true ∧ rest.length ≤ bs.length := by
  obtain ⟨⟨d, rest'⟩, hd, ⟨⟩⟩ := Option.map_eq_some_iff.mp h
  exact ⟨hf d, takeDisp_length hd⟩

theorem takeEffAddr_sound {m64 : Bool} {md : BitVec 2} {rm : BitVec 3} {ea : EffAddr} {rest : List Byte}
    (h : takeEffAddr m64 e md rm bs = some (ea, rest)) : ea.wf = true ∧ rest.length ≤ bs.length := by
  unfold takeEffAddr at h
  by_cases hsib : rm = 4
  · rw [if_pos hsib] at h
    cases bs with
    | nil => cases h
    | cons sib rest' =>
      dsimp only at h
      have hwf (b : Option RegNum) (d : DWord) := EffAddr.wf_of_sib b (regOf e.x (midOf sib)) (modOf sib) d
      by_cases hbase : md = 0 ∧ lowOf sib = 5
      · rw [if_pos hbase] at h
        exact (takeDisp_map_sound h (hwf none)).imp_right Nat.le_succ_of_le
      · rw [if_neg hbase] at h
        exact (takeDisp_map_sound h (hwf _)).imp_right Nat.le_succ_of_le
  · rw [if_neg hsib] at h
    by_cases hdisp : md = 0 ∧ rm = 5
    · rw [if_pos hdisp] at h
      cases m64 <;> exact takeDisp_map_sound h fun d => rfl
    · rw [if_neg hdisp] at h
      exact takeDisp_map_sound h fun d => rfl

/-- Whatever the continuation makes of a well-formed memory operand is sound. -/
theorem withMem_sound {modrm : Byte} {k : MemOp → List Byte → Decoded}
    (hk : ∀ m rest, m.wf = true → rest.length ≤ bs.length → (k m rest).Sound total p) :
    (withMem c p e modrm bs k).Sound total p := by
  unfold withMem
  split_ifs
  · exact Decoded.sound_narrowed _
  · split
    · exact Decoded.sound_incomplete
    next ea rest h =>
      obtain ⟨hwf, hlen⟩ := takeEffAddr_sound h
      exact hk _ _ hwf hlen

theorem withRM_sound {modrm : Byte} {k : RM → List Byte → Decoded}
    (hk : ∀ o rest, o.wf = true → rest.length ≤ bs.length → (k o rest).Sound total p) :
    (withRM c p e modrm bs k).Sound total p := by
  unfold withRM
  split_ifs
  · exact hk _ _ rfl le_rfl
  · exact withMem_sound fun m rest hm hlen => hk _ _ hm hlen

theorem legacyDone_sound {rest : List Byte} {d : Nat → Decoded}
    (hd : p.lock = false → (d (total - rest.length)).Sound total p) : (legacyDone total p rest d).Sound total p := by
  unfold legacyDone
  refine Decoded.sound_refused_or fun _ => Decoded.sound_undefined_or fun hlock => hd ?_
  simpa using hlock

/-- A legacy instruction that ends where `rest` begins. -/
theorem legacyDone_instr_sound {i : Instr} {rest : List Byte} (hi : i.wf = true) (hlen : rest.length < total) :
    (legacyDone total p rest fun n => .instr i n).Sound total p :=
  legacyDone_sound fun hlock => Decoded.sound_instr hlock hi hlen

/-! ### Legacy opcodes -/

theorem decode0F01_sound (hlen : bs.length ≤ total) : (decode0F01 total p bs).Sound total p := by
  unfold decode0F01
  split
  · exact Decoded.sound_incomplete
  next m rest =>
    have hrest : rest.length < total := hlen
    dsimp only
    split_ifs
    case pos | neg => exact Decoded.sound_refused _
    all_goals exact legacyDone_instr_sound rfl hrest

theorem prefetchOf_wf {reg : BitVec 3} {mk : MemOp → Instr} (h : prefetchOf reg = some mk) {m : MemOp}
    (hm : m.wf = true) : (mk m).wf = true := by
  unfold prefetchOf at h
  split_ifs at h <;> cases h <;> exact hm

theorem raoOf_wf {w : Bool} {mk : MemOp → RegNum → Instr} (h : raoOf p w = some mk) {m : MemOp} (src : RegNum)
    (hm : m.wf = true) : (mk m src).wf = true := by
  unfold raoOf at h
  split_ifs at h <;> cases h <;> exact hm

theorem decode0F18_sound (hlen : bs.length ≤ total) : (decode0F18 c total p e bs).Sound total p := by
  unfold decode0F18
  split
  · exact Decoded.sound_incomplete
  next m rest =>
    split
    · refine legacyDone_sound fun _ => ?_
      split
      · exact Decoded.sound_registerHint _
      · exact Decoded.sound_nop _
    · refine withMem_sound fun a rest' ha hrest' => legacyDone_sound fun hlock => ?_
      split
      next mk hmk =>
        exact Decoded.sound_instr hlock (prefetchOf_wf hmk ha) (hrest'.trans_lt hlen)
      · exact Decoded.sound_nop _

theorem decode0F38_sound (hlen : bs.length ≤ total) : (decode0F38 c total p e bs).Sound total p := by
  unfold decode0F38
  split
  · exact Decoded.sound_incomplete
  · split_ifs
    · exact Decoded.sound_incomplete
    · exact Decoded.sound_refused _
  next o m rest =>
    have hrest : rest.length < total := Nat.lt_of_lt_of_le (by simp) hlen
    split
    · refine Decoded.sound_refused_or fun _ => ?_
      split
      · exact Decoded.sound_refused _
      next mk hmk =>
        exact Decoded.sound_undefined_or fun _ => withMem_sound fun a rest' ha hrest' =>
          legacyDone_instr_sound (raoOf_wf hmk _ ha) (hrest'.trans_lt hrest)
    · split
      · refine Decoded.sound_refused_or fun _ => Decoded.sound_refused_or fun _ =>
          Decoded.sound_undefined_or fun _ => legacyDone_instr_sound ?_ hrest
        split <;> rfl
      · exact Decoded.sound_refused _

theorem decodeLegacy_sound (hlen : bs.length ≤ total) : (decodeLegacy c total p e bs).Sound total p := by
  unfold decodeLegacy
  split
  · exact Decoded.sound_incomplete
  next b t =>
    refine Decoded.sound_refused_or fun _ => ?_
    split
    · exact Decoded.sound_incomplete
    next o rest =>
      have hrest : rest.length < total := Nat.lt_of_lt_of_le (by simp) hlen
      split_ifs
      · exact legacyDone_instr_sound rfl hrest
      · exact decode0F01_sound hrest.le
      · exact decode0F18_sound hrest.le
      · exact decode0F38_sound hrest.le
      · exact Decoded.sound_refused _

/-! ### VEX opcodes -/

/-- What an operand form makes of well-formed operands is well-formed. -/
def VexForm.KeepsWf : VexForm → Prop
  | .rm mk => ∀ d o, o.wf = true → (mk d o).wf = true
  | .rmMem mk => ∀ d m, m.wf = true → (mk d m).wf = true
  | .rmReg mk => ∀ d b, (mk d b).wf = true
  | .rvm mk => ∀ d a o, o.wf = true → (mk d a o).wf = true
  | .rvmReg mk => ∀ d a b, (mk d a b).wf = true
  | .rvmi mk => ∀ d a o imm, o.wf = true → (mk d a o imm).wf = true
  | .mrv mk => ∀ m a b, m.wf = true → (mk m a b).wf = true
  | .tile mk => ∀ d a b, tileWf d = true → tileWf a = true → tileWf b = true → (mk d a b).wf = true
  | .m7 mk => ∀ r imm, (mk r imm).wf = true

theorem tileWf_of_le {t : RegNum} (h : t.toNat ≤ 7) : tileWf t = true := decide_eq_true (Nat.lt_succ_of_le h)

/-- Every row of the opcode table gives a well-formed instruction. -/
theorem vexTable_keepsWf : ∀ r ∈ vexTable, r.form.KeepsWf := by
  simp only [vexTable, List.forall_mem_append, ← List.forall_iff_forall_mem]
  refine ⟨⟨⟨⟨?cmp, ?dot⟩, ?convert⟩, ?hash⟩, ?other⟩
  case cmp | dot =>
    and_intros <;> exact fun _ _ _ h => h
  case convert =>
    and_intros <;> exact fun _ _ h => h
  case hash =>
    exact ⟨fun _ _ _ => rfl, fun _ _ => rfl, fun _ _ => rfl, fun _ _ _ h => h, fun _ _ _ h => h, fun _ _ _ _ h => h,
      fun _ _ _ h => h, fun _ _ _ h => h, fun _ _ _ h => h, fun _ _ _ h => h⟩
  case other =>
    have htile {d a b : RegNum} (hd : tileWf d = true) (ha : tileWf a = true) (hb : tileWf b = true) :
        (tileWf d && tileWf a && tileWf b) = true := by rw [hd, ha, hb]; rfl
    exact ⟨fun _ _ => rfl, fun _ _ => rfl, fun _ _ _ => htile, fun _ _ _ => htile, fun _ _ _ => htile⟩

theorem vexFind_keepsWf {map pp op w l : Nat} {f : VexForm} (h : vexFind map pp op w l = .row f) : f.KeepsWf := by
  unfold vexFind at h
  split at h
  next r hr =>
    cases h
    exact vexTable_keepsWf r (List.mem_of_find?_eq_some hr)
  · split_ifs at h

theorem vexOperands_sound {raw : RegNum} {f : VexForm} {m : Byte} (hf : f.KeepsWf) (hlock : p.lock = false)
    (hlen : bs.length < total) : (vexOperands c total p e raw f m bs).Sound total p := by
  unfold vexOperands
  generalize (if c.m64 then raw else raw &&& 7 : RegNum) = v
  have hdone {i : Instr} {rest : List Byte} (hi : i.wf = true) (hrest : rest.length ≤ bs.length) :
      Decoded.Sound total p (.instr i (total - rest.length)) :=
    Decoded.sound_instr hlock hi (hrest.trans_lt hlen)
  cases f with
  | rm mk => exact Decoded.sound_undefined_or fun _ => withRM_sound fun o rest ho => hdone (hf _ _ ho)
  | rmMem mk => exact Decoded.sound_undefined_or fun _ => withMem_sound fun a rest ha => hdone (hf _ _ ha)
  | rmReg mk => exact Decoded.sound_undefined_or fun _ => hdone (hf _ _) le_rfl
  | rvm mk => exact withRM_sound fun o rest ho => hdone (hf _ _ _ ho)
  | rvmReg mk => exact Decoded.sound_undefined_or fun _ => hdone (hf _ _ _) le_rfl
  | rvmi mk =>
    refine withRM_sound fun o rest ho hrest => ?_
    cases rest with
    | nil => exact Decoded.sound_incomplete
    | cons b rest' => exact hdone (hf _ _ _ _ ho) (Nat.le_of_succ_le hrest)
  | mrv mk => exact Decoded.sound_undefined_or fun _ => withMem_sound fun a rest ha => hdone (hf _ _ _ ha)
  | tile mk =>
    refine Decoded.sound_undefined_or fun h => ?_
    simp only [not_or, Nat.not_lt] at h
    obtain ⟨-, -, hd, ha, hb⟩ := h
    exact hdone (hf _ _ _ (tileWf_of_le hd) (tileWf_of_le ha) (tileWf_of_le hb)) le_rfl
  | m7 mk =>
    refine Decoded.sound_undefined_or fun _ => ?_
    unfold withImm32
    split
    · exact hdone (hf _ _) (by simp; omega)
    · exact Decoded.sound_incomplete

theorem decodeVex3_sound (hlock : p.lock = false) (hlen : bs.length ≤ total) :
    (decodeVex3 c total p bs).Sound total p := by
  unfold decodeVex3
  split
  next p1 p2 op rest =>
    split
    · exact Decoded.sound_refused _
    · exact Decoded.sound_undefined
    next f hf =>
      split
      · exact Decoded.sound_incomplete
      next m rest' => exact vexOperands_sound (vexFind_keepsWf hf) hlock (Nat.lt_of_lt_of_le (by simp; omega) hlen)
  · exact Decoded.sound_incomplete

theorem decodeVex_sound {three : Bool} (hlen : bs.length ≤ total) : (decodeVex c total p three bs).Sound total p := by
  unfold decodeVex
  split
  · exact Decoded.sound_incomplete
  next n t =>
    refine Decoded.sound_refused_or fun _ => Decoded.sound_undefined_or fun hud => ?_
    obtain ⟨hlock, -⟩ : p.lock = false ∧ p.np = true := by simpa using hud
    split
    · exact decodeVex3_sound hlock hlen
    · exact Decoded.sound_refused _

/-! ### The decoder -/

theorem decodeRex_sound {rex : Byte} (hlen : bs.length ≤ total) : (decodeRex c total p rex bs).Sound total p := by
  unfold decodeRex
  split
  · exact Decoded.sound_incomplete
  · refine Decoded.sound_undefined_or fun _ => ?_
    split
    · exact decodeLegacy_sound hlen
    · exact Decoded.sound_refused _

theorem decodeFrom_sound (hlen : bs.length ≤ total) : (decodeFrom c total p bs).Sound total p := by
  unfold decodeFrom
  split
  · exact Decoded.sound_incomplete
  next b rest =>
    have hrest : rest.length ≤ total := (Nat.le_succ _).trans hlen
    split_ifs
    · exact decodeRex_sound hrest
    · exact decodeVex_sound hrest
    · exact decodeVex_sound hrest
    · exact Decoded.sound_refused _
    · exact decodeLegacy_sound hlen

end

/-! ## The statements of decoding -/

/-- Whatever bytes the decoder is given, its answer is sound. -/
theorem decode_sound (c : DecodeCtx) (bs : List Byte) :
    (decode c bs).Sound bs.length (splitPfx c.m64 noPfx bs).1 :=
  decodeFrom_sound (splitPfx_length ..)

/-- Settles O2: soundness of the answer, apart from LOCK. -/
theorem decodedIsWellFormed : Obligations.DecodedIsWellFormed := by
  unfold Obligations.DecodedIsWellFormed
  intro c bs i n h
  exact (decode_sound c bs i n h).2

/-- Settles O3: LOCK in front stays seen, and an answer that is an instruction saw none. -/
theorem lockPrefixNeverRuns : Obligations.LockPrefixNeverRuns := by
  unfold Obligations.LockPrefixNeverRuns
  intro c bs i n h
  obtain ⟨hlock, -⟩ := decode_sound c (0xF0 :: bs) i n h
  have hseen : (splitPfx c.m64 noPfx (0xF0 :: bs)).1.lock = true := splitPfx_lock rfl bs
  exact absurd (hseen.symm.trans hlock) (by decide)

/-- Settles O4, by running the decoder on each word. -/
theorem wordsDecode : Obligations.WordsDecode := by
  unfold Obligations.WordsDecode
  decide

end Sys2Proof

/-! ## Prefetch hints (49 R450 to R458) -/

namespace Sys2Proof.Machine

/-- Retiring advances RIP and counts the instruction, and writes nothing else. -/
theorem onlyRegs_retire (s : State) : onlyRegs s s.retire [] :=
  ⟨⟨rfl, rfl, rfl, rfl⟩, fun _ _ => rfl, rfl, rfl, fun _ => rfl, rfl, rfl⟩

/-- Settles O50: each of the six runs the same meaning, which retires and does nothing else. -/
theorem prefetchOnlyAdvances : Obligations.PrefetchOnlyAdvances := by
  unfold Obligations.PrefetchOnlyAdvances
  intro m s i hi
  have hexec : exec i s = hint m s := by
    simp only [List.mem_cons, List.not_mem_nil, or_false] at hi
    rcases hi with rfl | rfl | rfl | rfl | rfl | rfl <;> rfl
  exact ⟨s.retire, hexec, onlyRegs_retire s⟩

end Sys2Proof.Machine

/-! ## CPUID (40_cpuid R170, R171) -/

namespace Sys2Proof.Machine

/-- An instruction that writes only general and vector registers, RFLAGS, memory, the monitor and the queue of remote
atomic updates completes plainly when it retires. -/
theorem completesPlain_retire {s u : State}
    (h : u = { s with
      gpr := u.gpr, vregs := u.vregs, rflags := u.rflags, mem := u.mem, monitor := u.monitor, rao := u.rao }) :
    completesPlain s u.retire := by
  rw [h]
  exact ⟨rfl, rfl, rfl, rfl⟩

@[simp] theorem raoDrain_reg (s : State) (r : RegNum) : (raoDrain s).reg r = s.reg r := by
  rw [raoDrain_frame]
  rfl

@[simp] theorem raoDrain_vregs (s : State) : (raoDrain s).vregs = s.vregs := by rw [raoDrain_frame]

/-! ### The registers that CPUID writes -/

section
variable (s : State) (row : CpuidRow)

@[simp] theorem State.reg_setCpuid_rdx : (s.setCpuid row).reg rdx = row.edx.setWidth 64 :=
  State.reg_setReg32_same _ rdx _

@[simp] theorem State.reg_setCpuid_rcx : (s.setCpuid row).reg rcx = row.ecx.setWidth 64 := by
  rw [State.setCpuid, State.reg_setReg32_other _ _ (by decide), State.reg_setReg32_same]

@[simp] theorem State.reg_setCpuid_rbx : (s.setCpuid row).reg rbx = row.ebx.setWidth 64 := by
  rw [State.setCpuid, State.reg_setReg32_other _ _ (by decide), State.reg_setReg32_other _ _ (by decide),
    State.reg_setReg32_same]

@[simp] theorem State.reg_setCpuid_rax : (s.setCpuid row).reg rax = row.eax.setWidth 64 := by
  rw [State.setCpuid, State.reg_setReg32_other _ _ (by decide), State.reg_setReg32_other _ _ (by decide),
    State.reg_setReg32_other _ _ (by decide), State.reg_setReg32_same]

theorem State.sameRegsBut_setCpuid : sameRegsBut s (s.setCpuid row) [rax, rbx, rcx, rdx] := by
  intro r hr
  simp only [List.mem_cons, List.not_mem_nil, or_false, not_or] at hr
  obtain ⟨hrax, hrbx, hrcx, hrdx⟩ := hr
  rw [State.setCpuid, State.reg_setReg32_other _ _ hrdx, State.reg_setReg32_other _ _ hrcx,
    State.reg_setReg32_other _ _ hrbx, State.reg_setReg32_other _ _ hrax]

/-- Each register that CPUID writes holds a zero-extended 32-bit value. -/
theorem State.reg_setCpuid_lt {r : RegNum} (hr : r ∈ [rax, rbx, rcx, rdx]) :
    ((s.setCpuid row).reg r).toNat < 2 ^ 32 := by
  have hext (v : DWord) : (v.setWidth 64).toNat < 2 ^ 32 := by
    rw [BitVec.toNat_setWidth_of_le (by decide)]
    exact v.isLt
  simp only [List.mem_cons, List.not_mem_nil, or_false] at hr
  obtain rfl | rfl | rfl | rfl := hr
  · rw [State.reg_setCpuid_rax]; exact hext _
  · rw [State.reg_setCpuid_rbx]; exact hext _
  · rw [State.reg_setCpuid_rcx]; exact hext _
  · rw [State.reg_setCpuid_rdx]; exact hext _

end

/-! ### What CPUID does -/

/-- CPUID completes exactly outside a guest: the queued updates are performed, the four registers written. -/
theorem exec_cpuid_eq_next {s t : State} :
    exec .cpuid s = .next t ↔
      s.vmx ≠ .nonRoot ∧ t = ((raoDrain s).setCpuid (cpuidQuery s (s.reg32 rax) (s.reg32 rcx))).retire := by
  change execCpuid s = .next t ↔ _
  rw [execCpuid, settle_eq_next]
  simp only [bind_eq_ok, need_eq_ok, pure_eq_ok, decide_eq_true_eq]
  constructor
  · rintro ⟨u, ⟨-, hvmx, rfl⟩, rfl⟩
    exact ⟨hvmx, rfl⟩
  · rintro ⟨hvmx, rfl⟩
    exact ⟨_, ⟨(), hvmx, rfl⟩, rfl⟩

theorem completesPlain_cpuid (s : State) (row : CpuidRow) : completesPlain s ((raoDrain s).setCpuid row).retire := by
  refine completesPlain_retire ?_
  rw [raoDrain_frame]
  rfl

/-- Settles O19: the state in which CPUID completes, read register by register; the frame is that of the queued updates. -/
theorem cpuidResult : Obligations.CpuidResult := by
  unfold Obligations.CpuidResult
  intro s hvmx
  refine ⟨_, exec_cpuid_eq_next.mpr ⟨hvmx, rfl⟩, State.reg_setCpuid_rax .., State.reg_setCpuid_rbx ..,
    State.reg_setCpuid_rcx .., State.reg_setCpuid_rdx .., fun r hr => ?regs, raoDrain_vregs s, raoDrain_rflags s,
    rfl, rfl, rfl, completesPlain_cpuid ..⟩
  case regs => exact (State.sameRegsBut_setCpuid _ _ r hr).trans (raoDrain_reg s r)

/-- Settles O20: whenever CPUID completes, each of the four registers holds a zero-extended result. -/
theorem cpuidClearsHighHalves : Obligations.CpuidClearsHighHalves := by
  unfold Obligations.CpuidClearsHighHalves
  intro s t r h hr
  obtain ⟨-, rfl⟩ := exec_cpuid_eq_next.mp h
  exact State.reg_setCpuid_lt _ _ hr

end Sys2Proof.Machine

/-! ## MWAIT (49 R469 to R476) -/

namespace Sys2Proof.Machine

section
variable {s : State}

/-! ### The checks -/

/-- ECX = 0 asks for a monitored wait, and for nothing else. -/
theorem mwaitExtensionsLegal_zero (s : State) : mwaitExtensionsLegal s 0 = enumerated s .monitor := by
  simp [mwaitExtensionsLegal]

/-- ECX = 4 asks for a wait without a monitor, and for nothing else. -/
theorem mwaitExtensionsLegal_four (s : State) : mwaitExtensionsLegal s 4 = monitorlessSupported s := by
  simp [mwaitExtensionsLegal]

/-- MWAIT may run: it is enabled and enumerated, CPL is 0, and no VM exit is asked for. -/
def MwaitAllowed (s : State) : Prop :=
  monitorEnabled s = true ∧ (enumerated s .monitor = true ∨ enumerated s .mwait = true) ∧ s.cpl = 0 ∧
    (s.vmx ≠ .nonRoot ∨ s.vmcs.mwaitExiting = false)

/-- Where MWAIT may run, the extensions asked for in ECX decide alone. -/
theorem mwaitCheck_of_allowed (h : MwaitAllowed s) (ecx : DWord) :
    mwaitCheck s ecx = need (mwaitExtensionsLegal s ecx) gp0 := by
  obtain ⟨henabled, henum, hcpl, hexit⟩ := h
  have henum' : (enumerated s .monitor || enumerated s .mwait) = true := by simpa using henum
  have hexit' : (!(decide (s.vmx = .nonRoot) && s.vmcs.mwaitExiting)) = true := by
    obtain hvmx | hctl := hexit
    · simp [hvmx]
    · simp [hctl]
  rw [mwaitCheck, henabled, henum', hexit', hcpl]
  rfl

/-- MWAIT that may run and asks for nothing unsupported completes. -/
theorem exec_mwait_of_legal (h : MwaitAllowed s) (hlegal : mwaitExtensionsLegal s (s.reg32 rcx) = true) :
    exec .mwait s = .next (if (s.reg32 rcx).getLsbD 2 then mwaitMonitorless s (s.reg32 rcx) (s.reg32 rax)
      else mwaitMonitored s (s.reg32 rcx) (s.reg32 rax)).retire := by
  change execMwait s = _
  rw [execMwait, mwaitCheck_of_allowed h, hlegal]
  rfl

/-- MWAIT that may run but asks for something unsupported raises #GP(0). -/
theorem exec_mwait_of_illegal (h : MwaitAllowed s) (hlegal : mwaitExtensionsLegal s (s.reg32 rcx) = false) :
    exec .mwait s = .fault (.exception .gp 0 s.rip s) := by
  change execMwait s = _
  rw [execMwait, mwaitCheck_of_allowed h, hlegal]
  rfl

theorem exec_mwait_zero (h : MwaitAllowed s) (hmonitor : enumerated s .monitor = true) (hecx : s.reg32 rcx = 0) :
    exec .mwait s = .next (mwaitMonitored s 0 (s.reg32 rax)).retire := by
  rw [exec_mwait_of_legal h (by rwa [hecx, mwaitExtensionsLegal_zero]), hecx]
  rfl

theorem exec_mwait_four (h : MwaitAllowed s) (hsupported : monitorlessSupported s = true) (hecx : s.reg32 rcx = 4) :
    exec .mwait s = .next (mwaitMonitorless s 4 (s.reg32 rax)).retire := by
  rw [exec_mwait_of_legal h (by rwa [hecx, mwaitExtensionsLegal_four]), hecx]
  rfl

/-! ### The effects -/

theorem mwaitMonitored_of_armed {base size : Nat} (h : s.monitor = .armed base size) (ecx eax : DWord) :
    mwaitMonitored s ecx eax = { s with activity := .mwait false (ecx.getLsbD 0) (mwaitDeep eax) } := by
  rw [mwaitMonitored, h]

theorem mwaitMonitored_of_not_armed (h : ∀ base size, s.monitor ≠ .armed base size) (ecx eax : DWord) :
    mwaitMonitored s ecx eax = { s with monitor := .triggered } := by
  unfold mwaitMonitored
  split
  next base size harmed => exact absurd harmed (h base size)
  next => rfl

/-- Where the environment has no choice left, a wait without a monitor keeps what is armed. -/
theorem mwaitMonitorless_of_kept (h : s.env.monitorLost = []) (ecx eax : DWord) :
    mwaitMonitorless s ecx eax = { s with activity := .mwait true (ecx.getLsbD 0) (mwaitDeep eax) } := by
  unfold mwaitMonitorless
  split
  next =>
    have htail : s.env.monitorLost.tail = s.env.monitorLost := by rw [h]; rfl
    have hkept : nextChoice false s.env.monitorLost = false := by rw [h]; rfl
    simp only [htail, hkept]
    rfl
  next => rfl

end

/-- Settles O54: the extensions in ECX decide between a completion and #GP(0), and each completion changes one field of a
state that otherwise only retires. -/
theorem mwaitResult : Obligations.MwaitResult := by
  unfold Obligations.MwaitResult
  intro s henabled henum hcpl hexit
  have hallowed : MwaitAllowed s := ⟨henabled, henum, hcpl, hexit⟩
  refine ⟨fun base size hmonitor harmed hecx => ?armed, fun hmonitor hidle hecx => ?idle, ?monitorless⟩
  case armed =>
    refine ⟨_, exec_mwait_zero hallowed hmonitor hecx, ?_⟩
    rw [mwaitMonitored_of_armed harmed]
    exact ⟨rfl, onlyRegs_retire s⟩
  case idle =>
    refine ⟨_, exec_mwait_zero hallowed hmonitor hecx, ?_⟩
    rw [mwaitMonitored_of_not_armed hidle]
    exact ⟨rfl, rfl, onlyRegs_retire s⟩
  case monitorless =>
    rintro _ _ supported rfl rfl hgate hecx
    have hsupported : supported = monitorlessSupported s := hgate
    rw [hsupported]
    refine ⟨fun hyes hkept => ?_, fun hno => ?_⟩
    · refine ⟨_, exec_mwait_four hallowed hyes hecx, ?_⟩
      rw [mwaitMonitorless_of_kept hkept]
      exact ⟨rfl, onlyRegs_retire s⟩
    · exact exec_mwait_of_illegal hallowed (by rwa [hecx, mwaitExtensionsLegal_four])

end Sys2Proof.Machine

/-! ## Remote atomic operations and locked accesses (41_rao, 42 R235, 60 R510 and R511) -/

namespace Sys2Proof.Machine

/-! ### The access that the remote atomic operations and CMPccXADD share -/

section
variable {s : State} {p : Pointer} {m : MemOp} {n : Nat} {la : QWord}

/-- A misaligned access stops before translation (20_memory R95; log 25). -/
theorem access_of_misaligned {kind : AccessKind} {implicit : Bool} {align : Nat} {misaligned : Stop}
    (hla : linearOf s p n = .ok la) (hlass : lassData s implicit la = true) (hmis : la.toNat % align ≠ 0) :
    access s p n kind implicit align misaligned = .error misaligned := by
  have halign : need (la.toNat % align == 0) misaligned = .error misaligned := by simpa using hmis
  exact bind_eq_error.mpr (.inr ⟨la, hla, bind_eq_error.mpr (.inr ⟨(), need_eq_ok.mpr hlass,
    bind_eq_error.mpr (.inl halign)⟩)⟩)

/-- A locked access whose address pipeline stops, stops there. -/
theorem lockedAccess_of_access_error {x : Stop} (hla : linearOf s (memPointer s m) n = .ok la)
    (hacc : access s (memPointer s m) n .write false (if s.alignChecked then n else 1) (.exc .ac 0) = .error x) :
    lockedAccess s m n = .error x :=
  bind_eq_error.mpr (.inr ⟨la, hla, bind_eq_error.mpr (.inl hacc)⟩)

section
variable {pas : List Nat} (hla : linearOf s (memPointer s m) n = .ok la)
  (hacc : access s (memPointer s m) n .write false (if s.alignChecked then n else 1) (.exc .ac 0) = .ok pas)
include hla hacc

/-- What is left of a locked access whose address pipeline succeeds. -/
theorem lockedAccess_of_access : lockedAccess s m n = (do
    ucLockCheck s (writeBack s (s.userAccess false) la pas)
    need (!splitLocked s la n) (.exc .ac 0)
    return pas) := by
  simp only [lockedAccess, hla, hacc, bind, Except.bind]

/-- After the address pipeline, UC-lock disable can stop a locked access (60 R510). -/
theorem lockedAccess_of_ucLock {x : Stop}
    (huc : ucLockCheck s (writeBack s (s.userAccess false) la pas) = .error x) : lockedAccess s m n = .error x := by
  rw [lockedAccess_of_access hla hacc, huc]
  rfl

/-- After UC-lock disable, split-lock disable can stop a locked access (60 R511; log 33). -/
theorem lockedAccess_of_split (huc : ucLockCheck s (writeBack s (s.userAccess false) la pas) = .ok ())
    (hsplit : splitLocked s la n = true) : lockedAccess s m n = .error (.exc .ac 0) := by
  rw [lockedAccess_of_access hla hacc, huc, hsplit]
  rfl

end

/-! ### UC-lock and split-lock disable -/

/-- Write-back memory passes UC-lock disable. -/
@[simp] theorem ucLockCheck_writeBack (s : State) : ucLockCheck s true = .ok () := by simp [ucLockCheck]

/-- UC-lock disable raises #GP(0) where IA32_CORE_CAPABILITIES[4] = 1. -/
theorem ucLockCheck_gp (hon : (Store.get 0 0x33 s.msrs).getLsbD 28 = true)
    (hcap : (Store.get 0 0xCF s.msrs).getLsbD 4 = true) : ucLockCheck s false = .error gp0 := by
  rw [ucLockCheck, if_pos ⟨hon, rfl⟩, if_pos hcap]

/-- UC-lock disable raises #AC(4) where the capability is absent and CPUID enumerates that flavour. -/
theorem ucLockCheck_ac (hon : (Store.get 0 0x33 s.msrs).getLsbD 28 = true)
    (hcap : (Store.get 0 0xCF s.msrs).getLsbD 4 = false) (henum : enumerated s .ucLockAc = true) :
    ucLockCheck s false = .error (.exc .ac 4) := by
  rw [ucLockCheck, if_pos ⟨hon, rfl⟩, if_neg (ne_true_of_eq_false hcap), if_pos henum]

theorem splitLocked_eq_true : splitLocked s la n = true ↔
    (Store.get 0 0x33 s.msrs).getLsbD 29 = true ∧ (Store.get 0 0xCF s.msrs).getLsbD 5 = true ∧
      lineSize s < la.toNat % lineSize s + n := by
  simp [splitLocked, and_assoc]

end

/-! ### What the instructions run -/

section
variable {s : State} {m : MemOp} {wide : Bool}

/-- The source operand of a remote atomic operation is zero-extended to 64 bits. -/
theorem setWidth_reg32_eq (s : State) (r : RegNum) : (s.reg32 r).setWidth 64 = BitVec.ofNat 64 (regNum s false r) :=
  BitVec.eq_of_toNat_eq (by simp [State.reg32, regNum, formBytes])

theorem reg_eq_ofNat (s : State) (r : RegNum) : s.reg r = BitVec.ofNat 64 (regNum s true r) :=
  BitVec.eq_of_toNat_eq (by simp [regNum, formBytes, Nat.mod_eq_of_lt (s.reg r).isLt])

/-- The eight remote atomic operations are one operation (41_rao R212 to R217). -/
theorem exec_raoInstr (op : RaoOp) (wide : Bool) (m : MemOp) (r : RegNum) (s : State) :
    exec (raoInstr op wide m r) s = raoIssue op (formBytes wide) m (BitVec.ofNat 64 (regNum s wide r)) s := by
  cases wide with
  | false => rw [← setWidth_reg32_eq]; cases op <;> rfl
  | true => rw [← reg_eq_ofNat]; cases op <;> rfl

/-- The thirty-two CMPccXADD are one operation (42 R231). -/
theorem exec_cmpccInstr (c : Cond) (wide : Bool) (m : MemOp) (a b : RegNum) (s : State) :
    exec (cmpccInstr c wide m a b) s = cmpccxadd (8 * formBytes wide) c m a b s := by
  cases wide <;> cases c <;> rfl

/-- CMPccXADD where it may run, and its locked access stops. -/
theorem exec_cmpccInstr_of_stop {c : Cond} {a b : RegNum} {x : Stop} (henum : enumerated s .cmpccxadd = true)
    (h64 : s.in64 = true) (havx : s.avxEnabled = true) (hstop : lockedAccess s m (formBytes wide) = .error x) :
    exec (cmpccInstr c wide m a b) s = raise x s := by
  rw [exec_cmpccInstr, cmpccxadd, h64, henum, havx, Nat.mul_div_cancel_left _ (by decide), hstop]
  rfl

/-- A remote atomic operation whose destination is accessible and write-back queues its update and retires. -/
theorem raoIssue_of_access {op : RaoOp} {n pa : Nat} {src la : QWord} {more : List Nat}
    (henum : enumerated s .raoInt = true) (hla : linearOf s (memPointer s m) n = .ok la)
    (hacc : access s (memPointer s m) n .write false n gp0 = .ok (pa :: more))
    (hwb : writeBack s (s.userAccess false) la (pa :: more) = true) :
    raoIssue op n m src s = .next ({ s with rao := s.rao ++ [⟨op, pa, n, src⟩] } : State).retire := by
  refine settle_eq_next.mpr ⟨_, ?_, rfl⟩
  simp only [bind_eq_ok, need_eq_ok, pure_eq_ok]
  exact ⟨(), henum, la, hla, _, hacc, (), hwb, rfl⟩

/-- A remote atomic operation whose address pipeline stops raises what that raises. -/
theorem raoIssue_of_access_error {op : RaoOp} {n : Nat} {src la : QWord} {x : Stop}
    (henum : enumerated s .raoInt = true) (hla : linearOf s (memPointer s m) n = .ok la)
    (hacc : access s (memPointer s m) n .write false n gp0 = .error x) : raoIssue op n m src s = raise x s := by
  rw [raoIssue, henum, hla, hacc]
  rfl

end

/-- Settles O21: the eight forms are one operation, which writes only the queue and retires. -/
theorem raoQueuesUpdate : Obligations.RaoQueuesUpdate := by
  unfold Obligations.RaoQueuesUpdate
  intro op wide m r s la pa more henum hla hacc hwb
  refine ⟨_, (exec_raoInstr ..).trans (raoIssue_of_access henum hla hacc hwb), rfl, fun _ _ => rfl, rfl, rfl,
    fun _ => rfl, rfl, completesPlain_retire rfl⟩

/-- Settles O23: each fault is the stop of one check of the access, which comes before anything is written. -/
theorem lockedAccessFaults : Obligations.LockedAccessFaults := by
  unfold Obligations.LockedAccessFaults
  intro op c wide m a b s la pas hla
  refine ⟨fun hlass hmis => ⟨fun henum => ?rao, fun henum h64 havx hac => ?cmpcc⟩,
    fun henum h64 havx hacc => ⟨fun hon hwb => ⟨fun hcap => ?gp, fun hcap hflavour => ?ac⟩,
      fun hon hcap hline hwb => ?split⟩⟩
  case rao => exact (exec_raoInstr ..).trans (raoIssue_of_access_error henum hla (access_of_misaligned hla hlass hmis))
  case cmpcc =>
    have hstop : lockedAccess s m (formBytes wide) = .error (.exc .ac 0) :=
      lockedAccess_of_access_error hla (access_of_misaligned hla hlass (by rwa [if_pos hac]))
    exact exec_cmpccInstr_of_stop henum h64 havx hstop
  case gp =>
    exact exec_cmpccInstr_of_stop henum h64 havx
      (lockedAccess_of_ucLock hla hacc (by rw [hwb, ucLockCheck_gp hon hcap]))
  case ac =>
    exact exec_cmpccInstr_of_stop henum h64 havx
      (lockedAccess_of_ucLock hla hacc (by rw [hwb, ucLockCheck_ac hon hcap hflavour]))
  case split =>
    exact exec_cmpccInstr_of_stop henum h64 havx
      (lockedAccess_of_split hla hacc (by rw [hwb, ucLockCheck_writeBack]) (splitLocked_eq_true.mpr ⟨hon, hcap, hline⟩))

end Sys2Proof.Machine

/-! ## Queued updates and the memory system (41_rao R212 to R217) -/

namespace Sys2Proof.Machine

/-! ### One update -/

/-- The function of a remote atomic operation on numbers (41_rao R212 to R215). -/
def RaoOp.onNat (op : RaoOp) (x y : Nat) : Nat :=
  match op with
  | .add => x + y
  | .bitAnd => x &&& y
  | .bitOr => x ||| y
  | .bitXor => x ^^^ y

/-- Modulo 2^k, the function on 64-bit words is the function on numbers. -/
theorem RaoOp.toNat_apply_mod (op : RaoOp) (x : Nat) (src : QWord) {k : Nat} (hk : k ≤ 64) :
    (op.apply (BitVec.ofNat 64 x) src).toNat % 2 ^ k = op.onNat x src.toNat % 2 ^ k := by
  have hmod (y : Nat) : y % 2 ^ 64 % 2 ^ k = y % 2 ^ k := Nat.mod_mod_of_dvd y (pow_dvd_pow 2 hk)
  cases op with
  | add => simp only [apply, onNat, BitVec.toNat_add, BitVec.toNat_ofNat, hmod, Nat.mod_add_mod]
  | bitAnd => simp only [apply, onNat, BitVec.toNat_and, BitVec.toNat_ofNat, Nat.and_mod_two_pow, hmod]
  | bitOr => simp only [apply, onNat, BitVec.toNat_or, BitVec.toNat_ofNat, Nat.or_mod_two_pow, hmod]
  | bitXor => simp only [apply, onNat, BitVec.toNat_xor, BitVec.toNat_ofNat, Nat.xor_mod_two_pow, hmod]

/-- Performing an update writes the function of the old number and the source. -/
theorem leNat_bytesAt_raoPerform {s : State} {u : RaoUpdate} (hwf : s.mem.wf = true) (hsize : u.size ≤ 8) :
    leNat ((raoPerform s u).bytesAt (paRange u.pa u.size)) =
      u.op.onNat (leNat (s.bytesAt (paRange u.pa u.size))) u.src.toNat % 2 ^ (8 * u.size) := by
  have hbytes : 256 ^ u.size = 2 ^ (8 * u.size) := (pow_mul 2 8 u.size).symm
  rw [raoPerform, bytesAt_storeBytes hwf (paRange_nodup _ _) (by simp), leNat_leBytes, hbytes,
    RaoOp.toNat_apply_mod _ _ _ (by omega)]

/-- Performing an update leaves every byte alone that it does not name. -/
theorem read_raoPerform_other {s : State} {u : RaoUpdate} {pa : Nat} (h : pa ∉ paRange u.pa u.size) :
    (raoPerform s u).mem.read pa = s.mem.read pa := read_storeBytes_other h

/-! ### All updates, and those picked -/

theorem read_foldl_raoPerform_other {l : List RaoUpdate} {pa : Nat} (h : ∀ u ∈ l, pa ∉ paRange u.pa u.size)
    (s : State) : (l.foldl raoPerform s).mem.read pa = s.mem.read pa := by
  induction l generalizing s with
  | nil => rfl
  | cons u l ih =>
    rw [List.foldl_cons, ih (fun v hv => h v (List.mem_cons_of_mem _ hv)), read_raoPerform_other (h u List.mem_cons_self)]

/-- Perform the queued update at a position and take it out of the queue. -/
def raoTake (s : State) (i : Nat) : State :=
  match s.rao[i]? with
  | some u => { raoPerform s u with rao := s.rao.eraseIdx i }
  | none => s

/-- The updates picked are taken one after the other. -/
theorem raoPick_eq_foldl (picks : List Nat) (s : State) : raoPick s picks = picks.foldl raoTake s := by
  induction picks generalizing s with
  | nil => rfl
  | cons i picks ih =>
    rw [List.foldl_cons, ← ih, raoPick, raoTake]
    cases s.rao[i]? <;> rfl

theorem raoPick_env (s : State) (picks : List Nat) : (raoPick s picks).env = s.env := by
  rw [raoPick_eq_foldl]
  induction picks generalizing s with
  | nil => rfl
  | cons i picks ih =>
    rw [List.foldl_cons, ih, raoTake]
    split <;> rfl

theorem raoAgent_of_no_picks {s : State} (h : s.env.raoPicks = []) : raoAgent s = raoDrain s := by
  rw [raoAgent, h]

theorem raoAgent_of_picks {s : State} {picks : List Nat} {rest : List (List Nat)} (h : s.env.raoPicks = picks :: rest) :
    raoAgent s = picks.foldl raoTake { s with env := { s.env with raoPicks := rest } } := by
  rw [← raoPick_eq_foldl, raoAgent, h]

/-- The memory system takes none of the events that the environment has in store. -/
theorem raoAgent_events (s : State) : (raoAgent s).env.events = s.env.events := by
  unfold raoAgent
  split
  · rw [raoDrain_frame]
  · rw [raoPick_env]

/-! ### The memory system looks at memory, the queue and the picks alone -/

/-- Memory and the queue of remote atomic updates are the same. -/
def sameQueue (s t : State) : Prop := t.mem = s.mem ∧ t.rao = s.rao

section
variable {s t u : State}

theorem sameQueue.trans (h : sameQueue s t) (h' : sameQueue t u) : sameQueue s u :=
  ⟨h'.1.trans h.1, h'.2.trans h.2⟩

theorem raoPerform_sameQueue (v : RaoUpdate) (h : sameQueue s t) : sameQueue (raoPerform s v) (raoPerform t v) := by
  obtain ⟨hmem, hrao⟩ := h
  refine ⟨?_, hrao⟩
  simp only [raoPerform, State.storeBytes, State.bytesAt, hmem]

theorem foldl_raoPerform_sameQueue (l : List RaoUpdate) (h : sameQueue s t) :
    sameQueue (l.foldl raoPerform s) (l.foldl raoPerform t) := by
  induction l generalizing s t with
  | nil => exact h
  | cons v l ih => exact ih (raoPerform_sameQueue v h)

theorem raoTake_sameQueue (i : Nat) (h : sameQueue s t) : sameQueue (raoTake s i) (raoTake t i) := by
  have hrao : t.rao = s.rao := h.2
  unfold raoTake
  rw [hrao]
  split
  next v _ =>
    obtain ⟨hmem, -⟩ := raoPerform_sameQueue v h
    exact ⟨hmem, rfl⟩
  next => exact h

theorem foldl_raoTake_sameQueue (picks : List Nat) (h : sameQueue s t) :
    sameQueue (picks.foldl raoTake s) (picks.foldl raoTake t) := by
  induction picks generalizing s t with
  | nil => exact h
  | cons i picks ih => exact ih (raoTake_sameQueue i h)

theorem raoDrain_sameQueue (h : sameQueue s t) : sameQueue (raoDrain s) (raoDrain t) := by
  have hrao : t.rao = s.rao := h.2
  obtain ⟨hmem, -⟩ := foldl_raoPerform_sameQueue s.rao h
  refine ⟨?_, rfl⟩
  simp only [raoDrain, hrao, hmem]

theorem raoAgent_sameQueue (h : sameQueue s t) (hpicks : t.env.raoPicks = s.env.raoPicks) :
    sameQueue (raoAgent s) (raoAgent t) := by
  cases hs : s.env.raoPicks with
  | nil =>
    rw [raoAgent_of_no_picks hs, raoAgent_of_no_picks (hpicks.trans hs)]
    exact raoDrain_sameQueue h
  | cons picks rest =>
    rw [raoAgent_of_picks hs, raoAgent_of_picks (hpicks.trans hs)]
    exact foldl_raoTake_sameQueue picks h

/-! ### A boundary without events -/

theorem userTimerAgent_frame (s : State) : userTimerAgent s = { s with userTimer := (userTimerAgent s).userTimer } := by
  unfold userTimerAgent
  split <;> rfl

theorem guestTimerAgent_frame (s : State) :
    guestTimerAgent s = { s with guestTimer := (guestTimerAgent s).guestTimer } := by
  unfold guestTimerAgent
  split <;> rfl

/-- Before the memory system acts, time and the timers have touched neither memory nor the queue, nor the environment's
picks and events. -/
theorem timers_keep (s : State) :
    sameQueue s (guestTimerAgent (userTimerAgent (tick s))) ∧
      (guestTimerAgent (userTimerAgent (tick s))).env.raoPicks = s.env.raoPicks ∧
      (guestTimerAgent (userTimerAgent (tick s))).env.events = s.env.events := by
  rw [guestTimerAgent_frame, userTimerAgent_frame]
  exact ⟨⟨rfl, rfl⟩, rfl, rfl⟩

theorem onMatches_sameQueue {xs : List (Fin 4)} (h : onMatches xs s = .ok t) : sameQueue s t := by
  obtain ⟨-, rfl⟩ := onMatches_eq_ok.mp h
  rw [fireTriggers_frame]
  exact ⟨rfl, rfl⟩

theorem takeEvents_of_quiet {rest : List (List Event)} (h : s.env.events = [] :: rest) :
    takeEvents s = .ok { s with env := { s.env with events := rest } } := by
  rw [takeEvents, boundaryEvents, h]
  rfl

theorem endMonitoredWait_sameQueue (s : State) : sameQueue s (endMonitoredWait s) := by
  unfold endMonitoredWait
  split
  · split <;> exact ⟨rfl, rfl⟩
  · exact ⟨rfl, rfl⟩

/-- At a boundary without events the memory system alone changes memory and the queue. -/
theorem boundary_of_quiet {rest : List (List Event)} (hquiet : s.env.events = [] :: rest) (h : boundary s = .ok t) :
    sameQueue (raoAgent s) t := by
  obtain ⟨htimers, hpicks, hevents⟩ := timers_keep s
  have hagent := raoAgent_sameQueue htimers hpicks
  have hkept := (raoAgent_events (guestTimerAgent (userTimerAgent (tick s)))).trans (hevents.trans hquiet)
  simp only [boundary, boundary_bind_eq_ok, pure, Except.pure, Except.ok.injEq] at h
  obtain ⟨r, hdata, v, htake, w, huser, x, hcode, rfl⟩ := h
  have hbreaks : sameQueue (raoAgent s) r := by
    rw [dataBreaks_eq_ok hdata]
    exact hagent
  have hr : r.env.events = [] :: rest := by
    rw [dataBreaks_eq_ok hdata]
    exact hkept
  have htaken : sameQueue r v := by
    rw [takeEvents_of_quiet hr] at htake
    cases htake
    exact ⟨rfl, rfl⟩
  have hwait : sameQueue v w := by
    rw [recognizeUser_eq_ok huser]
    exact endMonitoredWait_sameQueue v
  have hcodes : sameQueue w x := onMatches_sameQueue hcode
  exact ((hbreaks.trans htaken).trans hwait).trans hcodes

end

/-- Settles O22: one update by reading back the bytes it stores, all of them by induction on the queue; at a boundary
without events the memory system sees the memory, the queue and the picks that the step began with. -/
theorem raoUpdatePerformed : Obligations.RaoUpdatePerformed := by
  unfold Obligations.RaoUpdatePerformed
  intro s hwf
  refine ⟨fun u hsize => ⟨leNat_bytesAt_raoPerform hwf hsize, fun pa => read_raoPerform_other⟩, rfl,
    fun pa hpa => read_foldl_raoPerform_other hpa s, raoAgent_of_no_picks, fun picks rest => raoAgent_of_picks,
    fun t rest => boundary_of_quiet⟩

end Sys2Proof.Machine

/-! ## The flags of a comparison (42 R232, R233) -/

namespace Sys2Proof.Machine

/-! ### Each flag -/

/-- A running exclusive-or is the parity of the number of bits that are 1. -/
theorem foldl_xor_eq_countP (p : Nat → Bool) (l : List Nat) (acc : Bool) :
    l.foldl (fun a i => a ^^ p i) acc = (acc ^^ decide (l.countP p % 2 = 1)) := by
  induction l generalizing acc with
  | nil => simp
  | cons i l ih =>
    rw [List.foldl_cons, ih, List.countP_cons, Bool.xor_assoc]
    congr 1
    obtain hparity | hparity := Nat.mod_two_eq_zero_or_one (l.countP p) <;> cases p i <;> simp [Nat.add_mod, hparity]

theorem evenParity_eq_true (b : Byte) : evenParity b = true ↔ ((List.range 8).countP fun k => b.getLsbD k) % 2 = 0 := by
  simp [evenParity, foldl_xor_eq_countP]

section
variable {w : Nat} (x y : BitVec w)

/-- PF looks at the eight low bits alone. -/
theorem cmpStatus_pf :
    (cmpStatus x y).pf = true ↔ ((List.range 8).countP fun k => (x - y).getLsbD k) % 2 = 0 := by
  have hlow : ((List.range 8).countP fun k => ((x - y).setWidth 8).getLsbD k) =
      (List.range 8).countP fun k => (x - y).getLsbD k :=
    List.countP_congr fun k hk => by simp [List.mem_range.mp hk]
  rw [cmpStatus, evenParity_eq_true, hlow]

theorem cmpStatus_af : (cmpStatus x y).af = true ↔ (x.setWidth 4).toNat < (y.setWidth 4).toNat := by
  simp [cmpStatus]

/-- OF is the overflow of the signed subtraction. -/
theorem cmpStatus_of_eq_ssubOverflow : (cmpStatus x y).of = x.ssubOverflow y := by
  rw [BitVec.ssubOverflow_eq, cmpStatus]
  cases x.msb <;> cases y.msb <;> simp

theorem cmpStatus_of : (cmpStatus x y).of = true ↔ x.toInt - y.toInt ≠ (x - y).toInt := by
  rw [cmpStatus_of_eq_ssubOverflow]
  constructor
  · intro hover heq
    have hlow := (x - y).le_toInt
    have hhigh := (x - y).toInt_lt
    simp only [BitVec.ssubOverflow, Bool.or_eq_true, decide_eq_true_eq] at hover
    omega
  · intro hne
    by_contra hfits
    exact hne (BitVec.toInt_sub_of_not_ssubOverflow hfits).symm

/-- SF and OF differ exactly where the first number is less: without overflow SF is the sign of the difference, and with
overflow the signs of the two numbers differ, and SF is the wrong one. -/
theorem cmpStatus_sf_bne_of : ((cmpStatus x y).sf != (cmpStatus x y).of) = decide (x.toInt < y.toInt) := by
  cases hof : (cmpStatus x y).of with
  | false =>
    have hdiff : x.toInt - y.toInt = (x - y).toInt := by simpa [hof] using cmpStatus_of x y
    rw [Bool.bne_false, cmpStatus, BitVec.msb_eq_toInt, ← hdiff]
    exact decide_eq_decide.mpr sub_neg
  | true =>
    simp only [cmpStatus, Bool.and_eq_true, bne_iff_ne] at hof
    obtain ⟨hsigns, hwrong⟩ := hof
    rw [cmpStatus, Bool.eq_not_of_ne hwrong]
    simp only [BitVec.msb_eq_toInt, ne_eq, decide_eq_decide] at hsigns
    have hless : x.toInt < y.toInt ↔ x.toInt < 0 := by omega
    simp [BitVec.msb_eq_toInt, hless]

end

/-! ### Each condition -/

/-- The condition that holds where another does not (42 R232). -/
def Cond.compl : Cond → Cond
  | .o => .no
  | .no => .o
  | .b => .nb
  | .nb => .b
  | .z => .nz
  | .nz => .z
  | .be => .nbe
  | .nbe => .be
  | .s => .ns
  | .ns => .s
  | .p => .np
  | .np => .p
  | .l => .nl
  | .nl => .l
  | .le => .nle
  | .nle => .le

theorem Cond.holds_compl (f : Status) (c : Cond) : c.compl.holds f = !c.holds f := by
  cases c <;> simp [compl, holds, bne]

/-- What a condition means settles what its complement means. -/
theorem Cond.holds_compl_iff {f : Status} {c : Cond} {p : Prop} (h : c.holds f = true ↔ p) :
    c.compl.holds f = true ↔ ¬p := by
  rw [holds_compl, ← h, Bool.not_eq_true', Bool.not_eq_true]

section
variable {w : Nat} (x y : BitVec w)

theorem cmpStatus_holds_b : Cond.holds (cmpStatus x y) .b = true ↔ x.toNat < y.toNat := decide_eq_true_iff

theorem cmpStatus_holds_z : Cond.holds (cmpStatus x y) .z = true ↔ x = y := decide_eq_true_iff

theorem cmpStatus_holds_be : Cond.holds (cmpStatus x y) .be = true ↔ x.toNat ≤ y.toNat := by
  calc Cond.holds (cmpStatus x y) .be = true
      ↔ x.toNat < y.toNat ∨ x = y := by simp [Cond.holds, cmpStatus]
    _ ↔ x.toNat ≤ y.toNat := by rw [← BitVec.toNat_inj, Nat.le_iff_lt_or_eq]

theorem cmpStatus_holds_l : Cond.holds (cmpStatus x y) .l = true ↔ x.toInt < y.toInt := by
  rw [Cond.holds, cmpStatus_sf_bne_of, decide_eq_true_iff]

theorem cmpStatus_holds_le : Cond.holds (cmpStatus x y) .le = true ↔ x.toInt ≤ y.toInt := by
  calc Cond.holds (cmpStatus x y) .le = true
      ↔ x = y ∨ x.toInt < y.toInt := by
        rw [Cond.holds, cmpStatus_sf_bne_of, Bool.or_eq_true, decide_eq_true_iff]
        exact or_congr_left (cmpStatus_holds_z x y)
    _ ↔ x.toInt ≤ y.toInt := by rw [← BitVec.toInt_inj, le_iff_eq_or_lt]

end

/-- Settles O25: each condition by the meaning of the flags it looks at, its complement by negation. -/
theorem compareConditions : Obligations.CompareConditions := by
  unfold Obligations.CompareConditions
  intro w x y _
  have hb := cmpStatus_holds_b x y
  have hbe := cmpStatus_holds_be x y
  have hz := cmpStatus_holds_z x y
  have hl := cmpStatus_holds_l x y
  have hle := cmpStatus_holds_le x y
  have hs : Cond.holds (cmpStatus x y) .s = true ↔ (x - y).msb = true := Iff.rfl
  have ho : Cond.holds (cmpStatus x y) .o = true ↔ x.toInt - y.toInt ≠ (x - y).toInt := cmpStatus_of x y
  have hp : Cond.holds (cmpStatus x y) .p = true ↔ _ := cmpStatus_pf x y
  exact ⟨hb, (Cond.holds_compl_iff hb).trans Nat.not_lt, hbe, (Cond.holds_compl_iff hbe).trans Nat.not_le,
    hz, Cond.holds_compl_iff hz, hl, (Cond.holds_compl_iff hl).trans Int.not_lt,
    hle, (Cond.holds_compl_iff hle).trans Int.not_le, hs, (Cond.holds_compl_iff hs).trans Bool.eq_false_iff.symm,
    ho, (Cond.holds_compl_iff ho).trans not_not, hp, (Cond.holds_compl_iff hp).trans Nat.mod_two_ne_zero,
    cmpStatus_af x y⟩

end Sys2Proof.Machine

/-! ## CMPccXADD (42 R230 to R236) -/

namespace Sys2Proof.Machine

/-! ### The locked access -/

theorem access_of_lockedAccess {s : State} {m : MemOp} {n : Nat} {pas : List Nat} (h : lockedAccess s m n = .ok pas) :
    access s (memPointer s m) n .write false (if s.alignChecked then n else 1) (.exc .ac 0) = .ok pas := by
  simp only [lockedAccess, bind_eq_ok, pure_eq_ok] at h
  obtain ⟨la, -, pas', haccess, -, -, -, -, rfl⟩ := h
  exact haccess

/-- CMPccXADD where it may run, and its locked access is allowed. -/
theorem exec_cmpccInstr_of_lockedAccess {s : State} {m : MemOp} {wide : Bool} {pas : List Nat}
    (henum : enumerated s .cmpccxadd = true) (h64 : s.in64 = true) (havx : s.avxEnabled = true)
    (hlock : lockedAccess s m (formBytes wide) = .ok pas) (c : Cond) (a b : RegNum) :
    exec (cmpccInstr c wide m a b) s = .next (cmpccEffect (8 * formBytes wide) c pas a b s).retire := by
  rw [exec_cmpccInstr, cmpccxadd, h64, henum, havx, Nat.mul_div_cancel_left _ (by decide), hlock]
  rfl

theorem two_pow_eight_mul (n : Nat) : 2 ^ (8 * n) = 256 ^ n := pow_mul 2 8 n

theorem formBytes_le (wide : Bool) : formBytes wide ≤ 8 := by cases wide <;> decide

/-! ### The effect -/

theorem setWidth_reg_eq_ofNat (s : State) (wide : Bool) (r : RegNum) :
    (s.reg r).setWidth (8 * formBytes wide) = BitVec.ofNat (8 * formBytes wide) (regNum s wide r) :=
  BitVec.eq_of_toNat_eq (by simp [regNum])

/-- The number that CMPccXADD writes to memory: the sum if the condition holds of the flags, else the number it read
(42 R231). -/
def cmpccSum (c : Cond) (f : Status) (wide : Bool) (old addend : Nat) : Nat :=
  if c.holds f then (old + addend) % 2 ^ (8 * formBytes wide) else old

theorem cmpccSum_lt {old : Nat} {wide : Bool} (hold : old < 2 ^ (8 * formBytes wide)) (c : Cond) (f : Status)
    (addend : Nat) : cmpccSum c f wide old addend < 2 ^ (8 * formBytes wide) := by
  unfold cmpccSum
  split
  · exact Nat.mod_lt _ (by positivity)
  · exact hold

/-- The number at as many addresses as the form has bytes is in range. -/
theorem leNat_bytesAt_lt (s : State) {wide : Bool} {pas : List Nat} (hlen : pas.length = formBytes wide) :
    leNat (s.bytesAt pas) < 2 ^ (8 * formBytes wide) := by
  have hbytes : (s.bytesAt pas).length = formBytes wide := by rw [State.bytesAt, List.length_map, hlen]
  rw [two_pow_eight_mul, ← hbytes]
  exact leNat_lt _

/-- The effect of CMPccXADD in numbers: a store of the sum, the old number in the second operand, the flags. -/
theorem cmpccEffect_eq {s : State} {wide : Bool} {pas : List Nat} {old : Nat} {f : Status} (c : Cond) (a b : RegNum)
    (hlen : pas.length = formBytes wide)
    (hold : old = leNat ((raoDrain s).bytesAt pas))
    (hf : f = cmpStatus (BitVec.ofNat (8 * formBytes wide) old) (BitVec.ofNat (8 * formBytes wide) (regNum s wide a))) :
    cmpccEffect (8 * formBytes wide) c pas a b s =
      { ((raoDrain s).storeBytes pas (leBytes (formBytes wide) (cmpccSum c f wide old (regNum s wide b)))).setReg a
          (BitVec.ofNat 64 old) with rflags := withStatus s.rflags f } := by
  have hlt : old < 2 ^ (8 * formBytes wide) := hold ▸ leNat_bytesAt_lt (raoDrain s) hlen
  have hreg : (BitVec.ofNat (8 * formBytes wide) old).setWidth 64 = BitVec.ofNat 64 old :=
    BitVec.eq_of_toNat_eq (by simp [Nat.mod_eq_of_lt hlt])
  have hsum : (if c.holds f then BitVec.ofNat (8 * formBytes wide) old + BitVec.ofNat _ (regNum s wide b)
      else BitVec.ofNat _ old).toNat = cmpccSum c f wide old (regNum s wide b) := by
    unfold cmpccSum
    split
    · simp
    · simp [Nat.mod_eq_of_lt hlt]
  simp only [cmpccEffect, ← hold, setWidth_reg_eq_ofNat, ← hf, hreg, hsum,
    Nat.mul_div_cancel_left _ (show 0 < 8 by decide)]

/-- Settles O24: the thirty-two forms are one operation, and its effect, in numbers, is read component by component. -/
theorem cmpccxaddResult : Obligations.CmpccxaddResult := by
  unfold Obligations.CmpccxaddResult
  intro c wide m a b s pas old f hwf h64 henum havx hlock hold hf
  have haccess := access_of_lockedAccess hlock
  have hsize := formBytes_le wide
  have hlen : pas.length = formBytes wide := access_length haccess
  have hnodup : pas.Nodup := access_nodup haccess (by omega)
  have hlt : old < 2 ^ (8 * formBytes wide) := hold ▸ leNat_bytesAt_lt (raoDrain s) hlen
  refine ⟨_, exec_cmpccInstr_of_lockedAccess henum h64 havx hlock c a b, ?_⟩
  rw [cmpccEffect_eq c a b hlen hold hf]
  refine ⟨?reg, fun r hr => ?regs, ?stored, fun pa hpa => read_storeBytes_other hpa, rfl, raoDrain_vregs s, rfl, rfl,
    completesPlain_retire ?frame⟩
  case reg =>
    have h64bits : old < 2 ^ 64 := hlt.trans_le (Nat.pow_le_pow_right (by decide) (by omega))
    change ((State.setReg _ a (BitVec.ofNat 64 old)).reg a).toNat = old
    rw [State.reg_setReg_same, BitVec.toNat_ofNat, Nat.mod_eq_of_lt h64bits]
  case regs =>
    have hother : r ≠ a := by simpa using hr
    exact (State.reg_setReg_other _ _ hother).trans (raoDrain_reg s r)
  case stored =>
    change leNat (((raoDrain s).storeBytes pas _).bytesAt pas) = _
    rw [bytesAt_storeBytes (wf_raoDrain hwf) hnodup (by rw [hlen, leBytes_length]), leNat_leBytes,
      ← two_pow_eight_mul, Nat.mod_eq_of_lt (cmpccSum_lt hlt c f _), cmpccSum]
  case frame =>
    rw [raoDrain_frame]
    rfl

end Sys2Proof.Machine

/-! ## PBNDKB: the bind structure (43 R256, R257, R259) -/

namespace Sys2Proof.Machine

/-! ### The fields of a bind structure (43 R256) -/

/-- Bytes 63:16 of a bind structure, which the tag covers. -/
def bindHeader (iv : BitVec 96) : List Byte := leBytes 8 0 ++ leBytes 12 iv.toNat ++ leBytes 28 0

/-- Bytes 255:128 of a bind structure, which the tag covers. -/
def bindTrailer (challenge : BitVec 256) (ctrl : Byte) : List Byte :=
  leBytes 32 challenge.toNat ++ [ctrl] ++ leBytes 95 0

/-- A number of `n` bytes reads back from its bytes. -/
theorem leNat_leBytes_toNat {w n : Nat} (h : w = 8 * n) (v : BitVec w) : leNat (leBytes n v.toNat) = v.toNat := by
  subst h
  rw [leNat_leBytes, ← two_pow_eight_mul, Nat.mod_eq_of_lt v.isLt]

theorem leBytes_zero_all (n : Nat) : (leBytes n 0).all (· == 0) = true := by
  induction n with
  | zero => rfl
  | succ n ih => simpa [leBytes] using ih

@[simp] theorem take_leBytes (n v : Nat) : (leBytes n v).take n = leBytes n v := List.take_of_length_le (by simp)

section
variable {bs a b : List Byte} {off n : Nat}

/-- A field whose bytes are those of a number is that number. -/
theorem field_of_slice {w : Nat} {v : BitVec w} (hw : w = 8 * n) (h : (bs.drop off).take n = leBytes n v.toNat) :
    field bs off n = v.toNat := by
  rw [field, h, leNat_leBytes_toNat hw]

/-- A field whose bytes are those of 0 is zero. -/
theorem zeroBytes_of_slice (h : (bs.drop off).take n = leBytes n 0) : zeroBytes bs off n = true := by
  rw [zeroBytes, h, leBytes_zero_all]

/-- A field that starts after the first part of a structure lies in the second. -/
theorem slice_append_right (h : a.length ≤ off) :
    ((a ++ b).drop off).take n = (b.drop (off - a.length)).take n := by
  rw [List.drop_append, List.drop_eq_nil_of_le h, List.nil_append]

/-- A field that ends before the second part of a structure lies in the first. -/
theorem slice_append_left (h : off + n ≤ a.length) : ((a ++ b).drop off).take n = (a.drop off).take n := by
  rw [List.drop_append_of_le_length (by omega), List.take_append_of_le_length (by rw [List.length_drop]; omega)]

end

section
variable (mac : BitVec 128) (iv : BitVec 96) (enc : BitVec 512) (challenge : BitVec 256) (ctrl : Byte)

@[simp] theorem bindHeader_length : (bindHeader iv).length = 48 := by simp [bindHeader]

@[simp] theorem bindTrailer_length : (bindTrailer challenge ctrl).length = 128 := by simp [bindTrailer]

theorem bindBytes_eq : bindBytes mac iv enc challenge ctrl =
    leBytes 16 mac.toNat ++ (bindHeader iv ++ (leBytes 64 enc.toNat ++ bindTrailer challenge ctrl)) := by
  simp only [bindBytes, bindHeader, bindTrailer, List.append_assoc]

theorem bindBytes_length : (bindBytes mac iv enc challenge ctrl).length = 256 := by simp [bindBytes_eq]

/-! Each field is a slice of one part: `slice_append_left` and `slice_append_right` walk to it. -/

/-- Bytes 63:16 of a bind structure are its header. -/
theorem bindBytes_slice_of_header {off n : Nat} (hlow : 16 ≤ off) (hhigh : off + n ≤ 64) :
    ((bindBytes mac iv enc challenge ctrl).drop off).take n = ((bindHeader iv).drop (off - 16)).take n := by
  rw [bindBytes_eq, slice_append_right (by simpa using hlow), slice_append_left (by simp; omega), leBytes_length]

/-- Bytes 255:128 of a bind structure are its trailer. -/
theorem bindBytes_slice_of_trailer {off : Nat} (n : Nat) (hlow : 128 ≤ off) :
    ((bindBytes mac iv enc challenge ctrl).drop off).take n =
      ((bindTrailer challenge ctrl).drop (off - 128)).take n := by
  rw [bindBytes_eq, slice_append_right (by simp; omega), slice_append_right (by simp; omega),
    slice_append_right (by simp; omega)]
  simp only [leBytes_length, bindHeader_length, Nat.sub_sub]

theorem field_bindBytes_mac : field (bindBytes mac iv enc challenge ctrl) 0 16 = mac.toNat := by
  refine field_of_slice (by decide) ?_
  rw [bindBytes_eq, slice_append_left (by simp)]
  simp

theorem field_bindBytes_enc : field (bindBytes mac iv enc challenge ctrl) 64 64 = enc.toNat := by
  refine field_of_slice (by decide) ?_
  rw [bindBytes_eq, slice_append_right (by simp), slice_append_right (by simp), slice_append_left (by simp)]
  simp

theorem field_bindBytes_iv : field (bindBytes mac iv enc challenge ctrl) 24 12 = iv.toNat := by
  refine field_of_slice (by decide) ?_
  rw [bindBytes_slice_of_header (hlow := by decide) (hhigh := by decide), bindHeader, slice_append_left (by simp),
    slice_append_right (by simp)]
  simp

theorem field_bindBytes_challenge : field (bindBytes mac iv enc challenge ctrl) 128 32 = challenge.toNat := by
  refine field_of_slice (by decide) ?_
  rw [bindBytes_slice_of_trailer (hlow := by decide), bindTrailer, slice_append_left (by simp),
    slice_append_left (by simp)]
  simp

theorem field_bindBytes_ctrl : field (bindBytes mac iv enc challenge ctrl) 160 1 = ctrl.toNat := by
  rw [field, bindBytes_slice_of_trailer (hlow := by decide), bindTrailer, slice_append_left (by simp),
    slice_append_right (by simp)]
  simp [leNat]

/-- The reserved bytes before the initialization vector. -/
theorem zeroBytes_bindBytes_low : zeroBytes (bindBytes mac iv enc challenge ctrl) 16 8 = true := by
  refine zeroBytes_of_slice ?_
  rw [bindBytes_slice_of_header (hlow := by decide) (hhigh := by decide), bindHeader, slice_append_left (by simp),
    slice_append_left (by simp)]
  simp

/-- The reserved bytes after the initialization vector. -/
theorem zeroBytes_bindBytes_mid : zeroBytes (bindBytes mac iv enc challenge ctrl) 36 28 = true := by
  refine zeroBytes_of_slice ?_
  rw [bindBytes_slice_of_header (hlow := by decide) (hhigh := by decide), bindHeader, slice_append_right (by simp)]
  simp

/-- The reserved bytes after KEY_GENERATION_CTRL. -/
theorem zeroBytes_bindBytes_high : zeroBytes (bindBytes mac iv enc challenge ctrl) 161 95 = true := by
  refine zeroBytes_of_slice ?_
  rw [bindBytes_slice_of_trailer (hlow := by decide), bindTrailer, slice_append_right (by simp)]
  simp

theorem zeroBytes_bindBytes_challenge : zeroBytes (bindBytes mac iv enc 0 ctrl) 128 32 = true := by
  refine zeroBytes_of_slice ?_
  rw [bindBytes_slice_of_trailer (hlow := by decide), bindTrailer, slice_append_left (by simp),
    slice_append_left (by simp)]
  simp

/-- The tag covers neither itself nor the encrypted keys, which it takes as its other argument. -/
theorem bindAad_bindBytes :
    bindAad (bindBytes mac iv enc challenge ctrl) = bindAad (bindBytes 0 iv 0 challenge ctrl) := by
  simp only [bindAad, bindBytes_slice_of_header (off := 16) (n := 48) (hlow := by decide) (hhigh := by decide),
    bindBytes_slice_of_trailer (off := 128) (hlow := by decide)]

/-- Another challenge, put in the place of the one of a bind structure, makes the structure of that challenge. -/
theorem bindBytes_put_challenge (other : BitVec 256) :
    (bindBytes mac iv enc challenge ctrl).take 128 ++ leBytes 32 other.toNat ++
      (bindBytes mac iv enc challenge ctrl).drop 160 = bindBytes mac iv enc other ctrl := by
  have hsplit (c : BitVec 256) : bindBytes mac iv enc c ctrl =
      (leBytes 16 mac.toNat ++ bindHeader iv ++ leBytes 64 enc.toNat) ++ leBytes 32 c.toNat ++
        ([ctrl] ++ leBytes 95 0) := by
    simp only [bindBytes_eq, bindTrailer, List.append_assoc]
  rw [hsplit challenge, hsplit other, List.drop_left' (by simp), List.append_assoc _ (leBytes 32 challenge.toNat),
    List.take_left' (by simp)]

/-- A structure unwraps exactly when its tag is the computed one. -/
theorem unwrap_bindBytes : unwrap (bindBytes mac iv enc challenge ctrl) =
    let key := Config.hmacSha256 Config.tseWrapKey challenge
    let aad := bindAad (bindBytes 0 iv 0 challenge ctrl)
    if Config.gcmTag key iv aad enc = mac then some (gcmDecrypt key iv aad enc) else none := by
  simp only [unwrap, wrappingKey, field_bindBytes_challenge, field_bindBytes_iv, field_bindBytes_enc,
    field_bindBytes_mac, bindAad_bindBytes mac iv enc, BitVec.ofNat_toNat, BitVec.setWidth_eq]

end

/-- The challenge of an input structure, as bytes. -/
theorem leBytes_challenge {tmp : List Byte} (h : tmp.length = 256) :
    leBytes 32 (BitVec.ofNat 256 (field tmp 128 32)).toNat = (tmp.drop 128).take 32 := by
  have hlen : ((tmp.drop 128).take 32).length = 32 := by simp [h]
  have hlt : field tmp 128 32 < 2 ^ 256 := by
    have hbytes := leNat_lt ((tmp.drop 128).take 32)
    rwa [hlen, ← two_pow_eight_mul] at hbytes
  rw [BitVec.toNat_ofNat, Nat.mod_eq_of_lt hlt]
  have hbytes := leBytes_leNat ((tmp.drop 128).take 32)
  rwa [hlen] at hbytes

theorem bindOutput_length (tmp : List Byte) (iv : BitVec 96) (keys : BitVec 512) :
    (bindOutput tmp iv keys).length = 256 := bindBytes_length ..

/-- What PBNDKB writes unwraps, with the challenge put back, to the keys it was made from. -/
theorem unwrap_bindOutput {tmp : List Byte} (h : tmp.length = 256) (iv : BitVec 96) (keys : BitVec 512) :
    unwrap ((bindOutput tmp iv keys).take 128 ++ (tmp.drop 128).take 32 ++ (bindOutput tmp iv keys).drop 160) =
      some keys := by
  rw [← leBytes_challenge h, bindOutput, bindBytes_put_challenge, unwrap_bindBytes]
  simp only [wrappingKey, gcmEncrypt, gcmDecrypt, if_true, Equiv.symm_apply_apply]

/-- Settles O27: each field of the written structure by its place, and the unwrapping by the law that decryption inverts
encryption. -/
theorem bindUnwrapsToSameKeys : Obligations.BindUnwrapsToSameKeys := by
  unfold Obligations.BindUnwrapsToSameKeys
  rintro tmp iv keys out hlen rfl
  refine ⟨bindOutput_length .., field_bindBytes_iv .., ?ctrl, ⟨_, field_bindBytes_enc .., field_bindBytes_mac ..⟩,
    zeroBytes_bindBytes_low .., zeroBytes_bindBytes_mid .., zeroBytes_bindBytes_challenge ..,
    zeroBytes_bindBytes_high .., unwrap_bindOutput hlen iv keys⟩
  case ctrl =>
    have hlt : field tmp 160 1 < 2 ^ 8 := by
      have hbytes := leNat_lt ((tmp.drop 160).take 1)
      have hone : ((tmp.drop 160).take 1).length = 1 := by simp [hlen]
      rwa [hone] at hbytes
    rw [bindOutput, field_bindBytes_ctrl, BitVec.toNat_ofNat, Nat.mod_eq_of_lt hlt]

end Sys2Proof.Machine

/-! ## PCONFIG (43 R260 to R270) -/

namespace Sys2Proof.Machine

/-! ### The status flags of PBNDKB and PCONFIG (43 R257, R261) -/

theorem withStatus_keyStatus_false (f : QWord) : withStatus f (keyStatus false) = f &&& ~~~0x8D5 :=
  BitVec.or_zero

theorem withStatus_keyStatus_zf (f : QWord) (failed : Bool) :
    (withStatus f (keyStatus failed)).getLsbD 6 = failed := by
  rw [withStatus, BitVec.getLsbD_or, BitVec.getLsbD_and]
  cases failed <;> simp [keyStatus, Status.bits, flagBit, statusMask]

/-- Apart from ZF the status flags are clear, and the other bits are kept. -/
theorem withStatus_keyStatus_rest (f : QWord) (failed : Bool) :
    withStatus f (keyStatus failed) &&& ~~~0x40 = f &&& ~~~0x8D5 := by
  have hzf : (keyStatus failed).bits &&& ~~~0x40 = 0 := by revert failed; decide
  have hmask : ~~~statusMask &&& ~~~0x40 = ~~~0x8D5 := by decide
  rw [withStatus, BitVec.and_or_distrib_right, hzf, BitVec.and_assoc, hmask]
  exact BitVec.or_zero

/-! ### Outcomes (43 R261, R263) -/

/-- What PCONFIG may change before it sets RAX and the flags: the key tables, the choices of lock and entropy, the count of
drawn values. -/
def sameButKeys (s v : State) : Prop :=
  v = { s with
    tmeKeys := v.tmeKeys, tseKeys := v.tseKeys, draws := v.draws
    env := { s.env with lockBusy := v.env.lockBusy, entropyShort := v.env.entropyShort } }

section
variable {s v : State}

theorem sameButKeys.refl (s : State) : sameButKeys s s := rfl

theorem sameButKeys.drew (h : sameButKeys s v) : sameButKeys s v.drew := by rw [h]; rfl

theorem sameButKeys.dropEntropy (h : sameButKeys s v) : sameButKeys s v.dropEntropy := by rw [h]; rfl

theorem sameButKeys.dropLock (h : sameButKeys s v) : sameButKeys s v.dropLock := by rw [h]; rfl

theorem sameButKeys.setTmeKey (h : sameButKeys s v) (k : Nat) (e : KeyEntry 512) : sameButKeys s (v.setTmeKey k e) := by
  rw [h]
  rfl

theorem sameButKeys.setTseKey (h : sameButKeys s v) (k : Nat) (e : KeyEntry 256) : sameButKeys s (v.setTseKey k e) := by
  rw [h]
  rfl

theorem sameRegsBut_setReg (s : State) (r : RegNum) (x : QWord) : sameRegsBut s (s.setReg r x) [r] :=
  fun _ hq => State.reg_setReg_other s x (by simpa using hq)

theorem keyFrame_of_sameButKeys (h : sameButKeys s v) (x : QWord) (failed : Bool) :
    keyFrame s { v.setReg rax x with rflags := withStatus v.rflags (keyStatus failed) }.retire := by
  rw [h]
  exact ⟨sameRegsBut_setReg s rax x, rfl, withStatus_keyStatus_rest s.rflags failed, fun _ => rfl, rfl, rfl, rfl, rfl,
    rfl, rfl, rfl⟩

theorem keyFailed_of_sameButKeys (h : sameButKeys s v) (htme : v.tmeKeys = s.tmeKeys) (htse : v.tseKeys = s.tseKeys)
    (code : QWord) : keyFailed s (keyFailure code v).retire code :=
  ⟨State.reg_setReg_same v rax code, withStatus_keyStatus_zf v.rflags true, htme, htse,
    keyFrame_of_sameButKeys h code true⟩

theorem keysWritten_of_sameButKeys (h : sameButKeys s v) : keysWritten s (keySuccess v).retire :=
  ⟨State.reg_setReg_same v rax 0, withStatus_keyStatus_zf v.rflags false, keyFrame_of_sameButKeys h 0 false⟩

end

section
variable {s v : State} {r : Except Stop State}

/-- PCONFIG fails with a code where its leaf ends so with both tables as they were. -/
theorem pconfig_fails {code : QWord} (hexec : exec .pconfig s = settle s r) (hr : r = .ok (keyFailure code v))
    (h : sameButKeys s v) (htme : v.tmeKeys = s.tmeKeys) (htse : v.tseKeys = s.tseKeys) :
    ∃ t, exec .pconfig s = .next t ∧ keyFailed s t code := by
  refine ⟨_, ?_, keyFailed_of_sameButKeys h htme htse code⟩
  rw [hexec, hr]
  rfl

/-- PCONFIG writes the entry of one KeyID of the TME-MK table where its leaf ends so. -/
theorem pconfig_writes_tme {k : Nat} {e : KeyEntry 512} (hwf : storesWf s = true) (hexec : exec .pconfig s = settle s r)
    (hr : r = .ok (keySuccess (v.setTmeKey k e))) (h : sameButKeys s v) (htme : v.tmeKeys = s.tmeKeys)
    (htse : v.tseKeys = s.tseKeys) :
    ∃ t, exec .pconfig s = .next t ∧ keysWritten s t ∧ t.tseKeys = s.tseKeys ∧
      Store.get KeyEntry.unset k t.tmeKeys = e ∧
      ∀ j, j ≠ k → Store.get KeyEntry.unset j t.tmeKeys = Store.get KeyEntry.unset j s.tmeKeys := by
  obtain ⟨-, -, hkeys, -⟩ := storesWf_iff.mp hwf
  refine ⟨(keySuccess (v.setTmeKey k e)).retire, ?_, keysWritten_of_sameButKeys (h.setTmeKey k e), htse,
    Store.get_set_same (by rwa [htme]), fun j hj => ?_⟩
  · rw [hexec, hr]
    rfl
  · rw [← htme]
    exact Store.get_set_other hj

/-- PCONFIG writes the entry of one KeyID of the TSE table where its leaf ends so. -/
theorem pconfig_writes_tse {k : Nat} {e : KeyEntry 256} (hwf : storesWf s = true) (hexec : exec .pconfig s = settle s r)
    (hr : r = .ok (keySuccess (v.setTseKey k e))) (h : sameButKeys s v) (htme : v.tmeKeys = s.tmeKeys)
    (htse : v.tseKeys = s.tseKeys) :
    ∃ t, exec .pconfig s = .next t ∧ keysWritten s t ∧ t.tmeKeys = s.tmeKeys ∧
      Store.get KeyEntry.unset k t.tseKeys = e ∧
      ∀ j, j ≠ k → Store.get KeyEntry.unset j t.tseKeys = Store.get KeyEntry.unset j s.tseKeys := by
  obtain ⟨-, -, -, hkeys⟩ := storesWf_iff.mp hwf
  refine ⟨(keySuccess (v.setTseKey k e)).retire, ?_, keysWritten_of_sameButKeys (h.setTseKey k e), htme,
    Store.get_set_same (by rwa [htse]), fun j hj => ?_⟩
  · rw [hexec, hr]
    rfl
  · rw [← htse]
    exact Store.get_set_other hj

end

/-! ### PCONFIG: which leaf runs (43 R260, R261) -/

/-- PCONFIG runs the leaf in EAX: it is enumerated, CPL is 0, no VM exit is asked for, and the leaf's target is
there. -/
structure PconfigReady (s : State) (leaf target : Nat) : Prop where
  enum : enumerated s .pconfig = true
  cpl : s.cpl = 0
  noExit : pconfigExits s leaf = false
  eax : s.reg32 rax = BitVec.ofNat 32 leaf
  target : pconfigTarget s target = true

section
variable {s : State} {p : KeyProgram}

theorem exec_pconfig_tme (h : PconfigReady s 0 1) : exec .pconfig s = settle s (pconfigTme s) := by
  change execPconfig s = _
  rw [execPconfig, h.eax]
  simp [h.enum, h.cpl, h.noExit, h.target, bind, Except.bind]

theorem exec_pconfig_tse (h : PconfigReady s 1 2) : exec .pconfig s = settle s (pconfigTse s) := by
  change execPconfig s = _
  rw [execPconfig, h.eax]
  simp [h.enum, h.cpl, h.noExit, h.target, bind, Except.bind]

theorem exec_pconfig_wrapped (h : PconfigReady s 2 2) : exec .pconfig s = settle s (pconfigWrapped s) := by
  change execPconfig s = _
  rw [execPconfig, h.eax]
  simp [h.enum, h.cpl, h.noExit, h.target, bind, Except.bind]

/-! ### PCONFIG leaf 0 (43 R264) -/

theorem pconfigTme_of_unknown_command (hread : readKeyProgram s = .ok p) (hcmd : 3 < p.command) :
    pconfigTme s = .ok (keyFailure 1 s) := by
  rw [pconfigTme, hread]
  exact if_pos hcmd

theorem pconfigTme_of_bad_keyId (hread : readKeyProgram s = .ok p) (hcmd : p.command ≤ 3)
    (hkey : p.keyId = 0 ∨ tmeMaxKey s < p.keyId) : pconfigTme s = .ok (keyFailure 3 s) := by
  rw [pconfigTme, hread]
  exact (if_neg (by omega)).trans (if_pos hkey)

/-- Past the checks of command and KeyID only that of the algorithm is left. -/
theorem pconfigTme_of_good_keyId (hread : readKeyProgram s = .ok p) (hcmd : p.command ≤ 3) (hkey : p.keyId ≠ 0)
    (hmax : p.keyId ≤ tmeMaxKey s) :
    pconfigTme s = need (algorithmLegal p.alg (tmeAlgorithms s)) gp0 >>= fun _ =>
      pure (if lockTaken s then keyFailure 5 s.dropLock else tmeProgram p s.dropLock) := by
  rw [pconfigTme, hread]
  exact (if_neg (by omega)).trans (if_neg (by omega))

/-- The entry that leaf 0 programs: of command 1 with two random values drawn one after the other. -/
def tmeEntry (p : KeyProgram) (s : State) : KeyEntry 512 :=
  match p.command with
  | 0 => ⟨.encrypt, p.alg, p.key1, p.key2⟩
  | 1 => ⟨.encrypt, p.alg, Config.randomBits s.draws ^^^ p.key1, Config.randomBits (s.draws + 1) ^^^ p.key2⟩
  | 2 => KeyEntry.unset
  | _ => .noEncrypt

/-- Command 1 with entropy at hand draws two values. -/
theorem tmeRandomKey_of_entropy (hent : s.env.entropyShort = []) :
    tmeRandomKey p s = keySuccess (s.dropEntropy.drew.dropEntropy.drew.setTmeKey p.keyId
      ⟨.encrypt, p.alg, Config.randomBits s.draws ^^^ p.key1, Config.randomBits (s.draws + 1) ^^^ p.key2⟩) := by
  have hfirst : entropyShort s = false := by
    rw [entropyShort, hent]
    rfl
  have hsecond : entropyShort s.dropEntropy.drew = false := by
    change s.env.entropyShort.tail.headD false = false
    rw [hent]
    rfl
  simp only [tmeRandomKey, hfirst, hsecond, Bool.false_eq_true, if_false]
  rfl

/-- With entropy at hand where it is needed, leaf 0 programs its entry; it makes no other change than those allowed. -/
theorem tmeProgram_eq {t : State} (ht : sameButKeys t s) (hent : p.command = 1 → s.env.entropyShort = []) :
    ∃ v, tmeProgram p s = keySuccess (v.setTmeKey p.keyId (tmeEntry p s)) ∧ sameButKeys t v ∧
      v.tmeKeys = s.tmeKeys ∧ v.tseKeys = s.tseKeys := by
  match hcmd : p.command with
  | 0 => exact ⟨s, by simp only [tmeProgram, tmeEntry, hcmd], ht, rfl, rfl⟩
  | 1 =>
    refine ⟨s.dropEntropy.drew.dropEntropy.drew, ?_, ht.dropEntropy.drew.dropEntropy.drew, by simp, by simp⟩
    simp only [tmeProgram, tmeEntry, hcmd, tmeRandomKey_of_entropy (hent hcmd)]
  | 2 => exact ⟨s, by simp only [tmeProgram, tmeEntry, hcmd], ht, rfl, rfl⟩
  | n + 3 => exact ⟨s, by simp only [tmeProgram, tmeEntry, hcmd], ht, rfl, rfl⟩

theorem tmeProgram_of_short (hcmd : p.command = 1) (hent : entropyShort s = true) :
    tmeProgram p s = keyFailure 2 s.dropEntropy := by
  rw [tmeProgram, hcmd]
  exact if_pos hent

end

/-- Settles O28: the checks in the order of R264, each failure by its code, and the entry written by command. -/
theorem pconfigProgramsTmeKey : Obligations.PconfigProgramsTmeKey := by
  unfold Obligations.PconfigProgramsTmeKey
  intro s p hwf henum hcpl hexit heax htarget hread
  have hexec := exec_pconfig_tme ⟨henum, hcpl, hexit, heax, htarget⟩
  have hsame : sameButKeys s s.dropLock := (sameButKeys.refl s).dropLock
  have hlegal (hcmd : p.command ≤ 3) (hkey : p.keyId ≠ 0) (hmax : p.keyId ≤ tmeMaxKey s)
      (halg : algorithmLegal p.alg (tmeAlgorithms s) = true) :
      pconfigTme s = .ok (if lockTaken s then keyFailure 5 s.dropLock else tmeProgram p s.dropLock) := by
    rw [pconfigTme_of_good_keyId hread hcmd hkey hmax, halg]
    rfl
  refine ⟨fun hcmd => ?command, fun hcmd hkey => ?keyId, fun hcmd hkey hmax halg => ?algorithm,
    fun hcmd hkey hmax halg => ⟨fun hlock => ?lock, fun hlock hone hshort => ?entropy, fun hlock hent => ?written⟩⟩
  case command =>
    exact pconfig_fails hexec (pconfigTme_of_unknown_command hread hcmd) (.refl s) rfl rfl
  case keyId =>
    exact pconfig_fails hexec (pconfigTme_of_bad_keyId hread hcmd hkey) (.refl s) rfl rfl
  case algorithm =>
    rw [hexec, pconfigTme_of_good_keyId hread hcmd hkey hmax, halg]
    rfl
  case lock =>
    exact pconfig_fails hexec ((hlegal hcmd hkey hmax halg).trans (by rw [hlock, if_pos rfl])) hsame rfl rfl
  case entropy =>
    have hprogram := tmeProgram_of_short (s := s.dropLock) hone hshort
    refine pconfig_fails hexec ((hlegal hcmd hkey hmax halg).trans ?_) hsame.dropEntropy rfl rfl
    rw [hlock, hprogram]
    rfl
  case written =>
    obtain ⟨v, hprogram, hv, htme, htse⟩ := tmeProgram_eq (p := p) hsame hent
    have hr : pconfigTme s = .ok (keySuccess (v.setTmeKey p.keyId (tmeEntry p s.dropLock))) := by
      rw [hlegal hcmd hkey hmax halg, hlock, ← hprogram]
      rfl
    obtain ⟨t, hnext, hwritten, htables, hentry, hothers⟩ := pconfig_writes_tme hwf hexec hr hv htme htse
    refine ⟨t, tmeEntry p s.dropLock, hnext, hwritten, htables, hentry, hothers, fun h => by simp only [tmeEntry, h],
      fun h => ⟨s.draws, le_rfl, s.draws + 1, Nat.le_succ _, Nat.ne_of_lt (Nat.lt_succ_self _), ?_⟩,
      fun h => by simp only [tmeEntry, h], fun h => by simp only [tmeEntry, h]; rfl⟩
    simp only [tmeEntry, h]
    rfl

section
variable {s : State} {p : KeyProgram} {bs : List Byte}

/-! ### PCONFIG leaf 1 (43 R266) -/

theorem pconfigTse_of_unknown_command (hread : readKeyProgram s = .ok p) (hcmd : 1 < p.command) :
    pconfigTse s = .ok (keyFailure 1 s) := by
  rw [pconfigTse, hread]
  exact if_pos hcmd

theorem pconfigTse_of_bad_keyId (hread : readKeyProgram s = .ok p) (hcmd : p.command ≤ 1)
    (hkey : p.keyId = 0 ∨ tseMaxKeys s ≤ p.keyId) : pconfigTse s = .ok (keyFailure 3 s) := by
  rw [pconfigTse, hread]
  exact (if_neg (by omega)).trans (if_pos hkey)

/-- The entry that leaf 1 programs. -/
def tseEntry (p : KeyProgram) : KeyEntry 256 :=
  if p.command = 0 then ⟨.encrypt, p.alg, p.key1.setWidth 256, p.key2.setWidth 256⟩ else ⟨.noEncrypt, 0, 0, 0⟩

/-- Past the checks of command and KeyID only that of the algorithm is left. -/
theorem pconfigTse_of_good_keyId (hread : readKeyProgram s = .ok p) (hcmd : p.command ≤ 1) (hkey : p.keyId ≠ 0)
    (hmax : p.keyId < tseMaxKeys s) :
    pconfigTse s = need (algorithmLegal p.alg (tseAlgorithms s)) gp0 >>= fun _ =>
      pure (if lockTaken s then keyFailure 5 s.dropLock
        else keySuccess (s.dropLock.setTseKey p.keyId (tseEntry p))) := by
  rw [pconfigTse, hread]
  exact (if_neg (by omega)).trans (if_neg (by omega))

/-! ### PCONFIG leaf 2 (43 R267) -/

/-- The two keys of an unwrapped structure are the halves of its number. -/
theorem extractLsb'_halves (keys : BitVec 512) :
    keys.extractLsb' 0 256 = BitVec.ofNat 256 (keys.toNat % 2 ^ 256) ∧
      keys.extractLsb' 256 256 = BitVec.ofNat 256 (keys.toNat / 2 ^ 256) := by
  constructor
  · apply BitVec.eq_of_toNat_eq
    rw [BitVec.extractLsb'_toNat, BitVec.toNat_ofNat, Nat.shiftRight_zero, Nat.mod_mod]
  · apply BitVec.eq_of_toNat_eq
    rw [BitVec.extractLsb'_toNat, BitVec.toNat_ofNat, Nat.shiftRight_eq_div_pow]

/-- Leaf 2 checks the algorithm first. -/
theorem pconfigWrapped_of_bad_algorithm
    (halg : algorithmLegal ((pconfigControl s).extractLsb' 24 16) (tseAlgorithms s) = false) :
    pconfigWrapped s = .error gp0 := by
  rw [pconfigWrapped, halg]
  rfl

/-- The wrapped structure of leaf 2 is legal: so are the algorithm in RBX, its alignment and its reserved bytes. -/
structure WrappedReady (s : State) (bs : List Byte) : Prop where
  algorithm : algorithmLegal ((pconfigControl s).extractLsb' 24 16) (tseAlgorithms s) = true
  aligned : (regPointer s rcx).off.toNat % 256 = 0
  read : memRead s (regPointer s rcx) 256 = .ok bs
  reserved : bindReservedZero bs = true

/-- On a legal structure KeyID, lock and tag decide, in this order. -/
theorem pconfigWrapped_eq (h : WrappedReady s bs) {keyId : Nat} (hkey : keyId = (pconfigControl s).toNat % 2 ^ 16) :
    pconfigWrapped s =
      if keyId = 0 ∨ tseMaxKeys s ≤ keyId then .ok (keyFailure 3 s)
      else if lockTaken s then .ok (keyFailure 5 s.dropLock)
      else .ok ((unwrap bs).elim (keyFailure 7 s.dropLock) fun keys => keySuccess (s.dropLock.setTseKey keyId
        ⟨.encrypt, (pconfigControl s).extractLsb' 24 16, keys.extractLsb' 0 256, keys.extractLsb' 256 256⟩)) := by
  subst hkey
  have haligned : ((regPointer s rcx).off.toNat % 256 == 0) = true := beq_iff_eq.mpr h.aligned
  rw [pconfigWrapped, h.algorithm, haligned, h.read]
  simp only [need_true, bind, Except.bind, h.reserved]
  cases unwrap bs <;> rfl

end

/-- Settles O29: in each leaf the checks in order, each failure by its code, and the entry written. -/
theorem pconfigProgramsTseKey : Obligations.PconfigProgramsTseKey := by
  unfold Obligations.PconfigProgramsTseKey
  intro s hwf henum hcpl htarget
  have hsame : sameButKeys s s.dropLock := (sameButKeys.refl s).dropLock
  constructor
  · intro p heax hexit hread
    have hexec := exec_pconfig_tse ⟨henum, hcpl, hexit, heax, htarget⟩
    refine ⟨fun hcmd => ?command, fun hcmd hkey => ?keyId, fun hcmd hkey hmax =>
      ⟨fun halg => ?algorithm, fun halg hlock => ?lock, fun halg hlock => ?written⟩⟩
    case command =>
      exact pconfig_fails hexec (pconfigTse_of_unknown_command hread hcmd) (.refl s) rfl rfl
    case keyId =>
      exact pconfig_fails hexec (pconfigTse_of_bad_keyId hread hcmd hkey) (.refl s) rfl rfl
    all_goals have hrest := pconfigTse_of_good_keyId hread hcmd hkey hmax
    case algorithm =>
      rw [hexec, hrest, halg]
      rfl
    all_goals rw [halg, hlock] at hrest
    case lock => exact pconfig_fails hexec hrest hsame rfl rfl
    case written => exact pconfig_writes_tse hwf hexec hrest hsame rfl rfl
  · rintro _ _ keyId bs heax hexit rfl rfl hkeyId
    have hexec := exec_pconfig_wrapped ⟨henum, hcpl, hexit, heax, htarget⟩
    refine ⟨fun halg => ?algorithm, fun halg haligned hread hreserved => ?legal⟩
    case algorithm =>
      rw [hexec, pconfigWrapped_of_bad_algorithm halg]
      rfl
    have hrest := pconfigWrapped_eq ⟨halg, haligned, hread, hreserved⟩ hkeyId
    refine ⟨fun hkey => ?keyId, fun hkey hmax =>
      ⟨fun hlock => ?lock, fun hlock htag => ?tag, fun keys hlock htag => ?written⟩⟩
    case keyId =>
      rw [if_pos hkey] at hrest
      exact pconfig_fails hexec hrest (.refl s) rfl rfl
    all_goals rw [if_neg (by omega), hlock] at hrest
    case lock => exact pconfig_fails hexec hrest hsame rfl rfl
    all_goals rw [htag] at hrest
    case tag => exact pconfig_fails hexec hrest hsame rfl rfl
    case written =>
      obtain ⟨hlow, hhigh⟩ := extractLsb'_halves keys
      rw [← hlow, ← hhigh]
      exact pconfig_writes_tse hwf hexec hrest hsame rfl rfl

/-! ## PBNDKB (43 R255 to R258) -/

section
variable {s : State} {tmp : List Byte} {pas : List Nat}

/-- With no choice left there is nothing to use up. -/
theorem dropEntropy_of_nil (h : s.env.entropyShort = []) : s.dropEntropy = s := by
  have htail : s.env.entropyShort.tail = s.env.entropyShort := by
    rw [h]
    rfl
  rw [State.dropEntropy, htail]

theorem entropyShort_of_nil (h : s.env.entropyShort = []) : entropyShort s = false := by
  rw [entropyShort, h]
  rfl

/-- The state PBNDKB leaves for the keys given, under the initialization vector of draw `n`, before it retires. -/
def bindWritten (tmp : List Byte) (pas : List Nat) (n : Nat) (keys : BitVec 512) (s : State) : State :=
  keySuccess ({ s with draws := n + 1 }.storeBytes pas (bindOutput tmp ((Config.randomBits n).setWidth 96) keys))

/-- The count of drawn values that the writing starts from does not matter. -/
theorem bindWritten_drew (n : Nat) (keys : BitVec 512) :
    bindWritten tmp pas n keys s.drew = bindWritten tmp pas n keys s := by
  unfold bindWritten
  rfl

/-- With entropy at hand PBNDKB writes the structure for its keys. -/
theorem bindEffect_of_bindKeys {t : State} {keys : BitVec 512} (hkeys : bindKeys tmp s = (some keys, t))
    (hent : t.env.entropyShort = []) : bindEffect tmp pas s = bindWritten tmp pas t.draws keys t := by
  rw [bindEffect, hkeys]
  simp only [entropyShort_of_nil hent, dropEntropy_of_nil hent, Bool.false_eq_true, if_false]
  rfl

/-- KEY_GENERATION_CTRL = 0: the given keys. -/
theorem bindEffect_of_given (hctrl : field tmp 160 1 = 0) (hent : s.env.entropyShort = []) :
    bindEffect tmp pas s = bindWritten tmp pas s.draws (BitVec.ofNat 512 (field tmp 64 64)) s := by
  have hkeys : bindKeys tmp s = (some (BitVec.ofNat 512 (field tmp 64 64)), s) := if_neg (by rw [hctrl]; decide)
  exact bindEffect_of_bindKeys hkeys hent

/-- KEY_GENERATION_CTRL = 1: the given keys exclusive-or those of the first draw; the initialization vector is drawn
after them. -/
theorem bindEffect_of_random (hctrl : field tmp 160 1 = 1) (hent : s.env.entropyShort = []) :
    bindEffect tmp pas s = bindWritten tmp pas (s.draws + 1)
      (BitVec.ofNat 512 (field tmp 64 64) ^^^ Config.randomBits s.draws) s := by
  have hkeys : bindKeys tmp s = (some (BitVec.ofNat 512 (field tmp 64 64) ^^^ Config.randomBits s.draws), s.drew) := by
    rw [bindKeys, if_pos hctrl, entropyShort_of_nil hent, dropEntropy_of_nil hent]
    rfl
  rw [bindEffect_of_bindKeys hkeys hent, bindWritten_drew, State.drew_draws]

/-- Where every check of PBNDKB passes, it completes with its effect. -/
theorem exec_pbndkb_of_ready (henum : enumerated s .pbndkb = true) (hcpl : s.cpl = 0) (h64 : s.in64 = true)
    (hrbx : (s.reg rbx).toNat % 256 = 0) (hrcx : (s.reg rcx).toNat % 256 = 0) (hdistinct : s.reg rbx ≠ s.reg rcx)
    (hread : memRead s (regPointer s rbx) 256 = .ok tmp) (hctrl : field tmp 160 1 ≤ 1)
    (hreserved : bindReservedZero tmp = true) (hmac : zeroBytes tmp 0 16 = true) (hiv : zeroBytes tmp 24 12 = true)
    (haccess : access s (regPointer s rcx) 256 .write false 1 gp0 = .ok pas) :
    exec .pbndkb s = .next (bindEffect tmp pas s).retire := by
  change execPbndkb s = _
  rw [execPbndkb, settle_eq_next]
  refine ⟨_, ?_, rfl⟩
  simp only [bind_eq_ok, need_eq_ok, pure_eq_ok, Bool.and_eq_true, decide_eq_true_eq, beq_iff_eq, bne_iff_ne]
  exact ⟨(), ⟨⟨henum, hcpl⟩, h64⟩, (), ⟨⟨hrbx, hrcx⟩, hdistinct⟩, tmp, hread, (), hctrl, (), hreserved,
    (), ⟨hmac, hiv⟩, pas, haccess, rfl⟩

theorem completesPlain_bindWritten (tmp : List Byte) (pas : List Nat) (n : Nat) (keys : BitVec 512) (s : State) :
    completesPlain s { (bindWritten tmp pas n keys s).retire with draws := s.draws } := ⟨rfl, rfl, rfl, rfl⟩

end

/-- Settles O26: KEY_GENERATION_CTRL decides the keys and the draws, and for any of them the written state is read
component by component. -/
theorem pbndkbResult : Obligations.PbndkbResult := by
  unfold Obligations.PbndkbResult
  intro s tmp pas hwf henum hcpl h64 hrbx hrcx hdistinct hread hctrl hreserved hmac hiv haccess hent
  have hexec := exec_pbndkb_of_ready henum hcpl h64 hrbx hrcx hdistinct hread hctrl hreserved hmac hiv haccess
  obtain ⟨keys, n, hn, heffect, hgiven, hrandom⟩ : ∃ keys n, n ≥ s.draws ∧
      bindEffect tmp pas s = bindWritten tmp pas n keys s ∧
      (field tmp 160 1 = 0 → keys = BitVec.ofNat 512 (field tmp 64 64)) ∧
      (field tmp 160 1 = 1 →
        ∃ k ≥ s.draws, k ≠ n ∧ keys = BitVec.ofNat 512 (field tmp 64 64) ^^^ Config.randomBits k) := by
    obtain hzero | hone : field tmp 160 1 = 0 ∨ field tmp 160 1 = 1 := by omega
    · exact ⟨_, _, le_rfl, bindEffect_of_given hzero hent, fun _ => rfl, fun hone => by omega⟩
    · exact ⟨_, _, Nat.le_succ _, bindEffect_of_random hone hent, fun hzero => by omega,
        fun _ => ⟨s.draws, le_rfl, by omega, rfl⟩⟩
  rw [heffect] at hexec
  have hlen : pas.length = 256 := access_length haccess
  refine ⟨_, keys, n, hn, hexec, ?stored, fun pa hpa => read_storeBytes_other hpa, hgiven, hrandom,
    State.reg_setReg_same _ rax 0, fun r hr => sameRegsBut_setReg _ rax 0 r hr, rfl,
    withStatus_keyStatus_false s.rflags, rfl, rfl, completesPlain_bindWritten ..⟩
  case stored =>
    exact bytesAt_storeBytes (s := { s with draws := n + 1 }) hwf (access_nodup haccess (by decide))
      (by rw [hlen, bindOutput_length])

/-! ## Privilege checks (60 R501, 43 R258 and R270, 44 R295 and R301, 49 R476) -/

/-- An instruction whose first check fails raises its stop. -/
theorem settle_of_first_check {s : State} {c : Bool} (hc : c = false) (x : Stop) (r : Unit → Except Stop State) :
    settle s (need c x >>= r) = raise x s := by
  rw [hc]
  rfl

section
variable {s : State}

theorem exec_pbndkb_of_cpl (hcpl : s.cpl ≠ 0) : exec .pbndkb s = raise ud s :=
  settle_of_first_check (by rw [decide_eq_false hcpl, Bool.and_false, Bool.false_and]) ..

theorem exec_pconfig_of_cpl (hcpl : s.cpl ≠ 0) : exec .pconfig s = raise ud s :=
  settle_of_first_check (by rw [decide_eq_false hcpl, Bool.and_false]) ..

/-- The checks of MWAIT before that of CPL raise #UD too. -/
theorem mwaitCheck_of_cpl (hcpl : s.cpl ≠ 0) (ecx : DWord) : mwaitCheck s ecx = .error ud := by
  rw [mwaitCheck, decide_eq_false hcpl]
  cases monitorEnabled s
  case false => rfl
  cases enumerated s .monitor || enumerated s .mwait <;> rfl

theorem exec_mwait_of_cpl (hcpl : s.cpl ≠ 0) : exec .mwait s = raise ud s := by
  change execMwait s = _
  rw [execMwait, mwaitCheck_of_cpl hcpl]
  rfl

/-- The checks of RDMSRLIST and WRMSRLIST outside a guest: that of CPL comes after those of mode and enumeration. -/
theorem msrListCheck_of_cpl (hcpl : s.cpl ≠ 0) (h64 : s.in64 = true) (hvmx : s.vmx ≠ .nonRoot)
    (henum : enumerated s .msrList = true) : msrListCheck s = .error gp0 := by
  rw [msrListCheck, h64, henum, decide_eq_true hvmx, decide_eq_false hcpl]
  rfl

theorem exec_rdmsrlist_of_check {x : Stop} (h : msrListCheck s = .error x) : exec .rdmsrlist s = raise x s := by
  change execRdmsrlist s = _
  rw [execRdmsrlist, h]

theorem exec_wrmsrlist_of_check {x : Stop} (h : msrListCheck s = .error x) : exec .wrmsrlist s = raise x s := by
  change execWrmsrlist s = _
  rw [execWrmsrlist, h]

theorem exec_wrmsrns_of_cpl (hcpl : s.cpl ≠ 0) (hmode : s.mode ≠ .real) (henum : enumerated s .wrmsrns = true) :
    exec .wrmsrns s = raise gp0 s := by
  change execWrmsrns s = _
  rw [execWrmsrns, henum, decide_eq_false hcpl, decide_eq_false hmode]
  rfl

end

/-- Settles O16: each instruction stops at its check of CPL, or at one before it with the same exception. -/
theorem privilegeViolations : Obligations.PrivilegeViolations := by
  unfold Obligations.PrivilegeViolations
  intro s hcpl
  refine ⟨exec_pbndkb_of_cpl hcpl, exec_pconfig_of_cpl hcpl, exec_mwait_of_cpl hcpl, fun h64 hvmx henum => ?lists,
    exec_wrmsrns_of_cpl hcpl⟩
  case lists =>
    have hcheck := msrListCheck_of_cpl hcpl h64 hvmx henum
    exact ⟨exec_rdmsrlist_of_check hcheck, exec_wrmsrlist_of_check hcheck⟩

end Sys2Proof.Machine

/-! ## URDMSR and UWRMSR (44 R303 to R312) -/

namespace Sys2Proof.Machine

/-! ### The checks -/

section
variable {α : Type} {s : State} {c : Bool}

/-- A check that passes goes on. -/
theorem need_bind_of_true (hc : c = true) (x : Stop) (k : Unit → Except Stop α) : (need c x >>= k) = k () := by
  rw [hc]
  rfl

/-- A check that fails stops. -/
theorem need_bind_of_false (hc : c = false) (x : Stop) (k : Unit → Except Stop α) : (need c x >>= k) = .error x := by
  rw [hc]
  rfl

/-- An instruction whose checks stop raises their stop. -/
theorem settle_bind_of_error {r : Except Stop α} {x : Stop} (hr : r = .error x) (k : α → Except Stop State) :
    settle s (r >>= k) = raise x s := by
  rw [hr]
  rfl

/-- An instruction whose checks pass does its effect. -/
theorem settle_bind_of_ok {r : Except Stop Unit} (hr : r = .ok ()) (k : Unit → Except Stop State) :
    settle s (r >>= k) = settle s (k ()) := by
  rw [hr]
  rfl

end

section
variable {s : State} {vex write : Bool} {a : Nat} {data : RegNum} {byte : Byte}

/-- The mode, the enumeration and, for the immediate forms, the XSAVE enables let URDMSR and UWRMSR run (44 R309; log
43). -/
abbrev userMsrRuns (s : State) (vex : Bool) : Bool := s.in64 && enumerated s .userMsr && (!vex || s.avxEnabled)

theorem userMsrRuns_eq_true (h64 : s.in64 = true) (henum : enumerated s .userMsr = true)
    (hvex : vex = false ∨ s.avxEnabled = true) : userMsrRuns s vex = true := by
  simpa [userMsrRuns, h64, henum] using hvex

theorem userMsrCheck_of_not_runs (h : userMsrRuns s vex = false) : userMsrCheck s vex write a data = .error ud :=
  need_bind_of_false h ..

/-- User-MSR access is disabled: the platform's fault. -/
theorem userMsrCheck_of_disabled (h : userMsrRuns s vex = true) (hoff : (Store.get 0 0x1C s.msrs).getLsbD 0 = false) :
    userMsrCheck s vex write a data = .error (if s.platform.userMsrDisabledIsGp then gp0 else ud) := by
  rw [userMsrCheck, need_bind_of_true h, need_bind_of_false hoff]

section
variable (h : userMsrRuns s vex = true) (hon : (Store.get 0 0x1C s.msrs).getLsbD 0 = true)
include h hon

theorem userMsrCheck_of_large (ha : 0x3FFF < a) : userMsrCheck s vex write a data = .error gp0 := by
  rw [userMsrCheck, need_bind_of_true h, need_bind_of_true hon, need_bind_of_false (by simpa using ha)]

/-- What is left of the checks once the byte of the bitmap is read. -/
theorem userMsrCheck_of_byte (ha : a ≤ 0x3FFF) (hread : readSupervisorByte s (userBitmapByte s write a) = .ok byte) :
    userMsrCheck s vex write a data = (do
      need (byte.getLsbD (a % 8)) gp0
      need (!write || s.platform.userMsrWritable.contains a) gp0
      need (!userMsrExits s write a)
        (if s.enclave then gp0
         else .vmExit (if write then 81 else 80) (BitVec.ofNat 64 a) (exitLength s) (userMsrInfo s data))) := by
  rw [userMsrCheck, need_bind_of_true h, need_bind_of_true hon, need_bind_of_true (decide_eq_true ha), hread]
  rfl

theorem userMsrCheck_of_denied (ha : a ≤ 0x3FFF)
    (hread : readSupervisorByte s (userBitmapByte s write a) = .ok byte)
    (hdenied : byte.getLsbD (a % 8) = false ∨ write = true ∧ a ∉ s.platform.userMsrWritable) :
    userMsrCheck s vex write a data = .error gp0 := by
  rw [userMsrCheck_of_byte h hon ha hread]
  cases hbit : byte.getLsbD (a % 8) with
  | false => rfl
  | true =>
    have hlist : (!write || s.platform.userMsrWritable.contains a) = false := by simpa [hbit] using hdenied
    rw [need_bind_of_true rfl, need_bind_of_false hlist]

theorem userMsrCheck_eq_ok (ha : a ≤ 0x3FFF) (hread : readSupervisorByte s (userBitmapByte s write a) = .ok byte)
    (hbit : byte.getLsbD (a % 8) = true) (hlist : write = false ∨ a ∈ s.platform.userMsrWritable)
    (hexit : userMsrExits s write a = false) : userMsrCheck s vex write a data = .ok () := by
  have hlist' : (!write || s.platform.userMsrWritable.contains a) = true := by simpa using hlist
  rw [userMsrCheck_of_byte h hon ha hread, need_bind_of_true hbit, need_bind_of_true hlist', hexit]
  rfl

end
end

/-! ### Denied accesses -/

/-- The four forms make the same checks, the immediate ones those of VEX too. -/
theorem exec_userMsr_form {s : State} {r addr : RegNum} {imm : DWord} {write : Bool} {i : Instr} {a : Nat}
    (hi : (i, a) ∈ (if write then [(Instr.uwrmsrReg addr r, userMsrAddress s addr), (.uwrmsrImm imm r, imm.toNat)]
      else [(.urdmsrReg r addr, userMsrAddress s addr), (.urdmsrImm r imm, imm.toNat)])) :
    ∃ vex k, exec i s = settle s (userMsrCheck s vex write a r >>= k) ∧
      (i ∈ [.urdmsrImm r imm, .uwrmsrImm imm r] → vex = true) ∧
      (i ∈ [.urdmsrReg r addr, .uwrmsrReg addr r] → vex = false) := by
  cases write with
  | true =>
    simp only [if_true, List.mem_cons, List.not_mem_nil, or_false, Prod.mk.injEq] at hi
    obtain ⟨rfl, rfl⟩ | ⟨rfl, rfl⟩ := hi
    · exact ⟨false, _, rfl, by simp, by simp⟩
    · exact ⟨true, _, rfl, by simp, by simp⟩
  | false =>
    simp only [Bool.false_eq_true, if_false, List.mem_cons, List.not_mem_nil, or_false, Prod.mk.injEq] at hi
    obtain ⟨rfl, rfl⟩ | ⟨rfl, rfl⟩ := hi
    · exact ⟨false, _, rfl, by simp, by simp⟩
    · exact ⟨true, _, rfl, by simp, by simp⟩

/-- Settles O36: the four forms make the same checks, and each denial fails one of them. -/
theorem userMsrDenied : Obligations.UserMsrDenied := by
  unfold Obligations.UserMsrDenied
  intro s r addr imm write i a byte h64 henum hi
  obtain ⟨vex, k, hexec, himm, hreg⟩ := exec_userMsr_form hi
  rw [hexec]
  refine ⟨fun havx hi => ?noXsave, fun h => ?runs⟩
  case noXsave =>
    have hruns : userMsrRuns s vex = false := by rw [userMsrRuns, himm hi, havx]; exact Bool.and_false _
    exact settle_bind_of_error (userMsrCheck_of_not_runs hruns) k
  case runs =>
    have hruns : userMsrRuns s vex = true := userMsrRuns_eq_true h64 henum (h.symm.imp_left hreg)
    refine ⟨fun hoff => ?disabled, fun hon ha => ?large, fun hon ha hread hdenied => ?denied⟩
    case disabled =>
      rw [settle_bind_of_error (userMsrCheck_of_disabled hruns hoff) k]
      split <;> rfl
    case large => exact settle_bind_of_error (userMsrCheck_of_large hruns hon ha) k
    case denied => exact settle_bind_of_error (userMsrCheck_of_denied hruns hon ha hread hdenied) k

end Sys2Proof.Machine

/-! ## Writes of an MSR (44 R290, R298) -/

namespace Sys2Proof.Machine

section
variable {s u : State} {a : Nat} {v : QWord}

/-! ### What a replaced value leaves alone -/

/-- The value of an MSR is replaced in its own component alone. -/
theorem msrPut_cases (s : State) (a : Nat) (v : QWord) :
    (canonMsr s a = 0x10 ∧ msrPut s a v = { s with tsc := v }) ∨
    (canonMsr s a = 0x1B00 ∧ msrPut s a v = s.setUserTimer v) ∨
    (canonMsr s a = 0x1980 ∧ msrPut s a v = { s with fixedCtr0 := v }) ∨
    (canonMsr s a = 0x6E0 ∧
      msrPut s a v = { s with guestTimer := { s.guestTimer with deadline := v, shadow := v } }) ∨
    msrPut s a v = { s with msrs := Store.set 0 (canonMsr s a) v s.msrs } := by
  unfold msrPut
  simp only
  split_ifs with htsc huser hfixed hguest
  · exact .inl ⟨htsc, rfl⟩
  · exact .inr (.inl ⟨huser, rfl⟩)
  · exact .inr (.inr (.inl ⟨hfixed, rfl⟩))
  · exact .inr (.inr (.inr (.inl ⟨hguest.1, rfl⟩)))
  · exact .inr (.inr (.inr (.inr rfl)))

/-- Of the MSR store a write touches the MSR's own entry alone. -/
theorem get_msrPut_other {b : Nat} (hb : b ≠ canonMsr s a) :
    Store.get 0 b (msrPut s a v).msrs = Store.get 0 b s.msrs := by
  obtain ⟨-, h⟩ | ⟨-, h⟩ | ⟨-, h⟩ | ⟨-, h⟩ | h := msrPut_cases s a v <;> rw [h]
  · rfl
  · exact Store.get_set_other hb

theorem msrPut_tsc (hc : canonMsr s a ≠ 0x10) : (msrPut s a v).tsc = s.tsc := by
  obtain ⟨h', -⟩ | ⟨-, h⟩ | ⟨-, h⟩ | ⟨-, h⟩ | h := msrPut_cases s a v
  · exact absurd h' hc
  all_goals rw [h]
  rfl

theorem msrPut_userTimer (hc : canonMsr s a ≠ 0x1B00) : (msrPut s a v).userTimer = s.userTimer := by
  obtain ⟨-, h⟩ | ⟨h', -⟩ | ⟨-, h⟩ | ⟨-, h⟩ | h := msrPut_cases s a v
  case inr.inl => exact absurd h' hc
  all_goals rw [h]

theorem msrPut_userTimer_pending : (msrPut s a v).userTimer.pending = s.userTimer.pending := by
  obtain ⟨-, h⟩ | ⟨-, h⟩ | ⟨-, h⟩ | ⟨-, h⟩ | h := msrPut_cases s a v <;> rw [h]
  rfl

theorem msrPut_guestTimer (hc : canonMsr s a ≠ 0x6E0) : (msrPut s a v).guestTimer = s.guestTimer := by
  obtain ⟨-, h⟩ | ⟨-, h⟩ | ⟨-, h⟩ | ⟨h', -⟩ | h := msrPut_cases s a v
  case inr.inr.inr.inl => exact absurd h' hc
  all_goals rw [h]
  rfl

/-- Of the guest timer a write touches the deadline and its shadow alone. -/
theorem msrPut_guestTimer_frame :
    { (msrPut s a v).guestTimer with deadline := s.guestTimer.deadline, shadow := s.guestTimer.shadow } =
      s.guestTimer := by
  obtain ⟨-, h⟩ | ⟨-, h⟩ | ⟨-, h⟩ | ⟨-, h⟩ | h := msrPut_cases s a v <;> rw [h]
  rfl

theorem msrPut_fixedCtr0 (hc : canonMsr s a ≠ 0x1980) : (msrPut s a v).fixedCtr0 = s.fixedCtr0 := by
  obtain ⟨-, h⟩ | ⟨-, h⟩ | ⟨h', -⟩ | ⟨-, h⟩ | h := msrPut_cases s a v
  case inr.inr.inl => exact absurd h' hc
  all_goals rw [h]
  rfl

/-! ### The frame of an instruction that writes an MSR -/

/-- A serializing write has the queued updates performed first: they touch memory, the monitor and the queue. -/
theorem serializingDrain_frame (s : State) (a : Nat) : ∃ mem monitor rao,
    (if msrSerializing s a then raoDrain s else s) = { s with mem := mem, monitor := monitor, rao := rao } := by
  split
  · exact ⟨_, _, _, raoDrain_frame s⟩
  · exact ⟨_, _, _, rfl⟩

/-- An instruction that writes the MSR `a`, and the registers `rs`, changes nothing else. -/
theorem onlyMsr_retire {rs : List RegNum} (hu : u = { msrWrite s a v with gpr := u.gpr })
    (hregs : sameRegsBut s u rs) : onlyMsr s u.retire a rs := by
  obtain ⟨mem, monitor, rao, hready⟩ := serializingDrain_frame s a
  rw [msrWrite, hready] at hu
  have hu' := hu
  rw [msrPut_frame] at hu'
  unfold onlyMsr
  rw [hready]
  refine ⟨?_, ?_, hregs, ?_, ?_, fun pa => ?_, ?_, ?_, fun b hb => ?msrs, fun hc => ?tsc, fun hc => ?userTimer,
    ?pending, fun hc => ?guestTimer, ?guestFrame, fun hc => ?fixed, ?rest⟩
  case msrs => rw [hu]; exact get_msrPut_other hb
  case tsc => rw [hu]; exact msrPut_tsc hc
  case userTimer => rw [hu]; exact msrPut_userTimer hc
  case pending => rw [hu]; exact msrPut_userTimer_pending
  case guestTimer => rw [hu]; exact msrPut_guestTimer hc
  case guestFrame => rw [hu]; exact msrPut_guestTimer_frame
  case fixed =>
    have hfixed : u.fixedCtr0 = s.fixedCtr0 := by rw [hu]; exact msrPut_fixedCtr0 hc
    have hrun : u.pmuRunning = s.pmuRunning := by rw [hu']
    rw [State.retire_fixedCtr0, hfixed, hrun]
  all_goals rw [hu']
  all_goals rfl

/-- A write of an MSR touches no general register. -/
@[simp] theorem msrWrite_reg (s : State) (a : Nat) (v : QWord) (r : RegNum) : (msrWrite s a v).reg r = s.reg r := by
  rw [msrWrite_frame]
  rfl

/-! ### WRMSRNS (44 R300, R301) -/

theorem reg32_toNat (s : State) (r : RegNum) : (s.reg32 r).toNat = (s.reg r).toNat % 2 ^ 32 :=
  BitVec.toNat_setWidth 32 (s.reg r)

/-- WRMSRNS whose checks pass writes the MSR. -/
theorem exec_wrmsrns_of_checks (henum : enumerated s .wrmsrns = true) (hcpl : s.cpl = 0 ∨ s.mode = .real)
    (hexit : msrExits s true (s.reg32 rcx).toNat = false)
    (hfault : wrmsrFaults s (s.reg32 rcx).toNat (s.reg32 rdx ++ s.reg32 rax) = false) :
    exec .wrmsrns s =
      .next (msrWrite s (s.reg32 rcx).toNat (s.reg32 rdx ++ s.reg32 rax)).retire := by
  refine settle_eq_next.mpr ⟨_, ?_, rfl⟩
  rw [need_bind_of_true henum, need_bind_of_true (by simpa using hcpl), hexit, hfault]
  rfl

/-- Settles O30: the checks pass, and a write of an MSR has the frame of one. -/
theorem wrmsrnsResult : Obligations.WrmsrnsResult := by
  unfold Obligations.WrmsrnsResult
  rintro s a v ha rfl henum hcpl hexit hfault
  rw [← reg32_toNat] at ha
  subst ha
  exact ⟨_, exec_wrmsrns_of_checks henum hcpl hexit hfault, rfl, onlyMsr_retire rfl (fun r _ => msrWrite_reg s _ _ r)⟩

end

end Sys2Proof.Machine

/-! ## What URDMSR and UWRMSR do (44 R303 to R306) -/

namespace Sys2Proof.Machine

section
variable {s : State} {vex : Bool} {a : Nat} {addr : RegNum}

/-- The MSR does not count by itself, so that its read draws no free value. -/
theorem msrRead_of_plain (h : countsFreely s a = false) : msrRead s a = (msrStored s (canonMsr s a), s) := by
  rw [msrRead, h]
  rfl

/-- An address below 2^32 in a register is the MSR address, whether bits 63:32 are looked at or not (93 U11). -/
theorem userMsrAddress_eq (h : (s.reg addr).toNat = a) (ha : a < 2 ^ 32) : userMsrAddress s addr = a := by
  unfold userMsrAddress
  split
  · rw [reg32_toNat, h, Nat.mod_eq_of_lt ha]
  · exact h

theorem onlyRegs_setReg_retire (s : State) (d : RegNum) (v : QWord) : onlyRegs s (s.setReg d v).retire [d] :=
  ⟨completesPlain_retire rfl, fun _ hr => State.reg_setReg_other s v (List.ne_of_not_mem_cons hr), rfl, rfl,
    fun _ => rfl, rfl, rfl⟩

theorem urdmsr_of_checks {dst : RegNum} (hcheck : userMsrCheck s vex false a dst = .ok ())
    (hfault : rdmsrFaults s a = false) (hplain : countsFreely s a = false) :
    urdmsr vex a dst s = .next (s.setReg dst (msrStored s (canonMsr s a))).retire := by
  rw [urdmsr, settle_bind_of_ok hcheck, hfault, msrRead_of_plain hplain]
  rfl

theorem uwrmsr_of_checks {src : RegNum} (hcheck : userMsrCheck s vex true a src = .ok ())
    (hfault : wrmsrFaults s a (s.reg src) = false) :
    uwrmsr vex a src s = .next (msrWrite s a (s.reg src)).retire := by
  rw [uwrmsr, settle_bind_of_ok hcheck, hfault]
  rfl

end

/-- Settles O34: both forms pass their checks and read the one MSR. -/
theorem urdmsrResult : Obligations.UrdmsrResult := by
  unfold Obligations.UrdmsrResult
  intro s a dst addr imm byte h64 henum hon ha hread hbit hexit hfault hplain
  have hread' : readSupervisorByte s (userBitmapByte s false a) = .ok byte := by
    rwa [userBitmapByte, if_neg Bool.false_ne_true, Nat.zero_add]
  have hrun (vex : Bool) (hvex : vex = false ∨ s.avxEnabled = true) :
      urdmsr vex a dst s = .next (s.setReg dst (msrStored s (canonMsr s a))).retire :=
    urdmsr_of_checks (userMsrCheck_eq_ok (userMsrRuns_eq_true h64 henum hvex) hon ha hread' hbit (.inl rfl) hexit)
      hfault hplain
  have hdst : (s.setReg dst (msrStored s (canonMsr s a))).retire.reg dst = msrStored s (canonMsr s a) :=
    State.reg_setReg_same ..
  refine ⟨fun haddr => ?register, fun himm havx => ?immediate⟩
  case register =>
    refine ⟨_, ?_, hdst, onlyRegs_setReg_retire ..⟩
    rw [← hrun false (.inl rfl), ← userMsrAddress_eq haddr (by omega)]
    rfl
  case immediate =>
    subst himm
    exact ⟨_, hrun true (.inr havx), hdst, onlyRegs_setReg_retire ..⟩

/-- Settles O35: both forms pass their checks and write the one MSR. -/
theorem uwrmsrResult : Obligations.UwrmsrResult := by
  unfold Obligations.UwrmsrResult
  intro s a addr src imm byte h64 henum hon ha hread hbit hlist hexit hfault
  have hrun (vex : Bool) (hvex : vex = false ∨ s.avxEnabled = true) :
      uwrmsr vex a src s = .next (msrWrite s a (s.reg src)).retire :=
    uwrmsr_of_checks (userMsrCheck_eq_ok (userMsrRuns_eq_true h64 henum hvex) hon ha hread hbit (.inr hlist) hexit) hfault
  have hframe : onlyMsr s (msrWrite s a (s.reg src)).retire a [] := onlyMsr_retire rfl fun r _ => msrWrite_reg s _ _ r
  refine ⟨fun haddr => ?register, fun himm havx => ?immediate⟩
  case register =>
    refine ⟨_, ?_, rfl, hframe⟩
    rw [← hrun false (.inl rfl), ← userMsrAddress_eq haddr (by omega)]
    rfl
  case immediate =>
    subst himm
    exact ⟨_, hrun true (.inr havx), rfl, hframe⟩

end Sys2Proof.Machine

/-! ## RDMSRLIST and WRMSRLIST (44 R291 to R298) -/

namespace Sys2Proof.Machine

/-! ### The mask of valid entries -/

/-- The entry of an iteration is the first valid one. -/
theorem lowestBit_of_ne_zero {v : QWord} (hv : v ≠ 0) :
    lowestBit v < 64 ∧ v.getLsbD (lowestBit v) = true ∧ ∀ j < lowestBit v, v.getLsbD j = false := by
  unfold lowestBit
  cases hfind : (List.range 64).find? fun i => v.getLsbD i with
  | none =>
    refine absurd (BitVec.eq_of_getLsbD_eq fun j hj => ?_) hv
    simpa using List.find?_eq_none.mp hfind j (List.mem_range.mpr hj)
  | some i =>
    rw [List.find?_range_eq_some] at hfind
    obtain ⟨hbit, hi, hbelow⟩ := hfind
    exact ⟨List.mem_range.mp hi, hbit, fun j hj => by simpa using hbelow j hj⟩

theorem twoPow_ne_zero {i : Nat} (hi : i < 64) : BitVec.twoPow 64 i ≠ 0 := by
  intro h
  have hbit : (BitVec.twoPow 64 i).getLsbD i = true := by simp [hi]
  rw [h] at hbit
  exact absurd hbit (by simp)

theorem lowestBit_twoPow {i : Nat} (hi : i < 64) : lowestBit (BitVec.twoPow 64 i) = i := by
  obtain ⟨-, hlow, -⟩ := lowestBit_of_ne_zero (twoPow_ne_zero hi)
  rw [BitVec.getLsbD_twoPow, Bool.and_eq_true, decide_eq_true_eq, decide_eq_true_eq] at hlow
  exact hlow.2.symm

section
variable {s u : State} {i : Nat}

/-- Bit `i` of the mask is cleared, and no other. -/
theorem getLsbD_completeEntry (s : State) (i k : Nat) :
    ((s.completeEntry i).reg rcx).getLsbD k = ((s.reg rcx).getLsbD k && decide (i ≠ k)) := by
  rw [State.completeEntry, State.reg_setReg_same, BitVec.getLsbD_and, BitVec.getLsbD_not, BitVec.getLsbD_twoPow]
  by_cases hk : k < 64
  · by_cases hi : i = k <;> simp [hk, hi]
  · have hout : (s.reg rcx).getLsbD k = false := BitVec.getLsbD_of_ge _ k (by omega)
    rw [hout, Bool.false_and, Bool.false_and]

theorem completeEntry_reg_other (s : State) (i : Nat) {r : RegNum} (hr : r ≠ rcx) :
    (s.completeEntry i).reg r = s.reg r := State.reg_setReg_other s _ hr

/-- After the only valid entry the mask is 0. -/
theorem completeEntry_of_single (h : s.reg rcx = BitVec.twoPow 64 i) : s.completeEntry i = s.setReg rcx 0 := by
  rw [State.completeEntry, h, BitVec.and_not_self]

/-! ### One valid entry, or none -/

theorem msrListCheck_eq_ok (h64 : s.in64 = true) (henum : enumerated s .msrList = true) (hvmx : s.vmx ≠ .nonRoot)
    (hcpl : s.cpl = 0) (hsi : (s.reg rsi).toNat % 8 = 0) (hdi : (s.reg rdi).toNat % 8 = 0) :
    msrListCheck s = .ok () := by
  rw [msrListCheck, h64, henum, decide_eq_true hvmx, decide_eq_true hcpl, hsi, hdi]
  rfl

theorem exec_rdmsrlist_of_ok (h : msrListCheck s = .ok ()) :
    exec .rdmsrlist s = msrListLoop .write rdmsrEntry 64 [] s.tsc s := by
  change execRdmsrlist s = _
  rw [execRdmsrlist, h]

theorem exec_wrmsrlist_of_ok (h : msrListCheck s = .ok ()) :
    exec .wrmsrlist s = msrListLoop .read wrmsrEntry 64 [] s.tsc s := by
  change execWrmsrlist s = _
  rw [execWrmsrlist, h]

section
variable {kind : AccessKind} {body : Nat → LoadStates → QWord → State → Except Stop (QWord × State)} {n : Nat}
  {earlier : List State} {floor floor' : QWord}

/-- With no valid entry left the instruction completes. -/
theorem msrListLoop_of_zero (h : s.reg rcx = 0) : msrListLoop kind body n earlier floor s = .next s.retire := by
  cases n with
  | zero => rfl
  | succ n => rw [msrListLoop, if_pos h]

/-- One iteration whose entry loads in turn and whose body succeeds. -/
theorem msrListLoop_of_single (hload : s.env.loadAhead = []) (hi : i < 64) (hmask : s.reg rcx = BitVec.twoPow 64 i)
    (hbody : body i ⟨s, s⟩ floor s = .ok (floor', u)) (hdone : u.reg rcx = 0) (hevents : u.env.events = [])
    (htrap : entryTraps s (decide (kind = .write)) i = false) :
    msrListLoop kind body (n + 1) earlier floor s = .next u.retire := by
  have hne : s.reg rcx ≠ 0 := by rw [hmask]; exact twoPow_ne_zero hi
  have hlist : listLoad s = .inTurn := by rw [listLoad, hload]; rfl
  have hturn : s.dropLoadAhead = s := by rw [State.dropLoadAhead, hload, List.tail_nil, ← hload]
  have hquiet : u.dropQuiet = u := by rw [State.dropQuiet, hevents, List.tail_nil, ← hevents]
  have hfault : loadAheadFault s kind i = none := by rw [loadAheadFault, hlist]
  have hstates : loadStates s earlier = ⟨s, s⟩ := by rw [loadStates, hlist]
  have hcalm : interruptedHere u = false := by rw [interruptedHere, hevents]; rfl
  rw [msrListLoop, if_neg hne, hmask, lowestBit_twoPow hi]
  simp only [hfault, hstates, hturn, hbody, hcalm, htrap, hquiet, Bool.or_self, Bool.false_eq_true, if_false]
  exact msrListLoop_of_zero hdone

end

/-! ### One iteration -/

theorem msrExits_of_not_guest {write : Bool} (a : Nat) (hvmx : s.vmx ≠ .nonRoot) : msrExits s write a = false := by
  rw [msrExits, decide_eq_false hvmx]
  rfl

theorem entryAddress_eq_ok {entry : QWord} (hread : readEntry s rsi i = .ok entry) (hentry : entry.toNat < 2 ^ 32) :
    entryAddress s i = .ok entry.toNat := by
  have hreserved : (entry.toNat / 2 ^ 32 == 0) = true := by rw [Nat.div_eq_of_lt hentry]; rfl
  rw [entryAddress, hread]
  exact need_bind_of_true hreserved ..

/-- An MSR that is neither the TSC nor IA32_BARRIER, and does not count by itself, is sampled as it stands. -/
theorem sampleMsr_of_plain {floor : QWord} {a : Nat} (hbarrier : a ≠ 0x2F) (htsc : canonMsr s a ≠ 0x10)
    (hplain : countsFreely s a = false) : sampleMsr s floor a = ⟨msrStored s (canonMsr s a), floor, s⟩ := by
  rw [sampleMsr, if_neg hbarrier, if_neg htsc, msrRead_of_plain hplain]

theorem rdmsrEntry_eq_ok {floor entry : QWord} {pas : List Nat} (hvmx : s.vmx ≠ .nonRoot)
    (hread : readEntry s rsi i = .ok entry) (hentry : entry.toNat < 2 ^ 32) (hbarrier : entry.toNat ≠ 0x2F)
    (htsc : canonMsr s entry.toNat ≠ 0x10) (hfault : rdmsrFaults s entry.toNat = false)
    (hplain : countsFreely s entry.toNat = false)
    (hacc : access s (tableEntry s rdi i) 8 .write false 1 gp0 = .ok pas) :
    rdmsrEntry i ⟨s, s⟩ floor s = .ok (floor,
      (s.storeBytes pas (leBytes 8 (msrStored s (canonMsr s entry.toNat)).toNat)).completeEntry i) := by
  rw [rdmsrEntry, entryAddress_eq_ok hread hentry, hacc]
  simp only [bind, Except.bind, sampleMsr_of_plain hbarrier htsc hplain, msrExits_of_not_guest _ hvmx, hfault,
    Bool.not_false, Bool.or_true, need_true]
  rfl

theorem wrmsrEntry_eq_ok {floor entry data : QWord} (hvmx : s.vmx ≠ .nonRoot)
    (hread : readEntry s rsi i = .ok entry) (hentry : entry.toNat < 2 ^ 32) (hdata : readEntry s rdi i = .ok data)
    (hfault : wrmsrFaults s entry.toNat data = false) :
    wrmsrEntry i ⟨s, s⟩ floor s = .ok (floor, (msrWrite s entry.toNat data).completeEntry i) := by
  rw [wrmsrEntry, entryAddress_eq_ok hread hentry, hdata]
  simp only [bind, Except.bind, msrExits_of_not_guest _ hvmx, hfault, Bool.not_false, need_true]
  rfl

@[simp] theorem msrWrite_env (s : State) (a : Nat) (v : QWord) : (msrWrite s a v).env = s.env := by rw [msrWrite_frame]

end

/-- Settles O32: the one iteration stores the sample, and the bytes of one access are distinct. -/
theorem rdmsrlistEntry : Obligations.RdmsrlistEntry := by
  unfold Obligations.RdmsrlistEntry
  intro s i entry pas hwf h64 henum hvmx hcpl hsi hdi hload hi
  have hexec := exec_rdmsrlist_of_ok (msrListCheck_eq_ok h64 henum hvmx hcpl hsi hdi)
  refine ⟨fun hzero => hexec.trans (msrListLoop_of_zero hzero), ?one⟩
  intro hmask hread hentry hbarrier htsc hfault hplain hacc hevents hmatch
  set v := msrStored s (canonMsr s entry.toNat)
  have hbody := rdmsrEntry_eq_ok (floor := s.tsc) hvmx hread hentry hbarrier htsc hfault hplain hacc
  rw [completeEntry_of_single (by rwa [State.storeBytes_reg])] at hbody
  have hrun := msrListLoop_of_single (n := 63) (kind := .write) (earlier := []) hload hi hmask hbody
    (State.reg_setReg_same ..) hevents hmatch
  refine ⟨_, hexec.trans hrun, ?value, fun pa hpa => read_storeBytes_other hpa, State.reg_setReg_same ..,
    fun r hr => State.reg_setReg_other _ _ (List.ne_of_not_mem_cons hr), rfl, rfl, rfl, rfl, completesPlain_retire rfl⟩
  have hbytes := bytesAt_storeBytes (bs := leBytes 8 v.toNat) hwf (access_nodup hacc (by decide))
    (by rw [access_length hacc, leBytes_length])
  calc leNat ((s.storeBytes pas (leBytes 8 v.toNat)).bytesAt pas)
      = leNat (leBytes 8 v.toNat) := by rw [hbytes]
    _ = v.toNat := by rw [leNat_leBytes]; exact Nat.mod_eq_of_lt v.isLt

/-- Settles O33: the one iteration writes the MSR, with the frame of such a write and of the mask. -/
theorem wrmsrlistEntry : Obligations.WrmsrlistEntry := by
  unfold Obligations.WrmsrlistEntry
  intro s i entry data h64 henum hvmx hcpl hsi hdi hload hi
  have hexec := exec_wrmsrlist_of_ok (msrListCheck_eq_ok h64 henum hvmx hcpl hsi hdi)
  refine ⟨fun hzero => hexec.trans (msrListLoop_of_zero hzero), ?one⟩
  intro hmask hread hentry hdata hfault hevents hmatch
  have hbody := wrmsrEntry_eq_ok (floor := s.tsc) hvmx hread hentry hdata hfault
  rw [completeEntry_of_single (by rwa [msrWrite_reg])] at hbody
  have hrun := msrListLoop_of_single (n := 63) (kind := .read) (earlier := []) hload hi hmask hbody
    (State.reg_setReg_same ..) (by rwa [State.setReg_env, msrWrite_env]) hmatch
  refine ⟨_, hexec.trans hrun, rfl, onlyMsr_retire rfl fun r hr => ?_⟩
  rw [State.reg_setReg_other _ _ (List.ne_of_not_mem_cons hr), msrWrite_reg]

end Sys2Proof.Machine

/-! ## Partial completion of the lists (44 R291, R294, R297) -/

namespace Sys2Proof.Machine

/-! ### Why a list can stop -/

/-- A computation that stops with a VM exit stops with one of the reasons `rs`. -/
structure ExitsWith {α : Type} (rs : List Nat) (r : Except Stop α) : Prop where
  reason_mem : ∀ {reason : Nat} {q len : QWord} {info : DWord}, r = .error (.vmExit reason q len info) → reason ∈ rs

section
variable {α β : Type} {rs : List Nat}

theorem ExitsWith.ok (a : α) : ExitsWith rs (.ok a) := ⟨fun h => by cases h⟩

theorem ExitsWith.exc (e : Exc) (code : DWord) : ExitsWith rs (.error (.exc e code) : Except Stop α) :=
  ⟨fun h => by cases h⟩

theorem ExitsWith.bind {r : Except Stop α} {f : α → Except Stop β} (hr : ExitsWith rs r)
    (hf : ∀ a, ExitsWith rs (f a)) : ExitsWith rs (r >>= f) := by
  refine ⟨fun h => ?_⟩
  obtain h | ⟨a, -, h⟩ := bind_eq_error.mp h
  · exact hr.reason_mem h
  · exact (hf a).reason_mem h

theorem ExitsWith.need {c : Bool} {x : Stop} (hx : ExitsWith rs (.error x : Except Stop Unit)) :
    ExitsWith rs (need c x) := by
  cases c
  · exact hx
  · exact .ok ()

theorem ExitsWith.need_gp0 (c : Bool) : ExitsWith rs (Machine.need c gp0) := .need (.exc ..)

theorem ExitsWith.mono {rs' : List Nat} {r : Except Stop α} (h : ExitsWith rs r) (hrs : ∀ n ∈ rs, n ∈ rs') :
    ExitsWith rs' r := ⟨fun hr => hrs _ (h.reason_mem hr)⟩

theorem violation_exitsWith (p : Pointer) : ExitsWith rs (.error p.violation : Except Stop α) := by
  unfold Pointer.violation
  split <;> exact .exc ..

theorem linearOf_exitsWith (s : State) (p : Pointer) (n : Nat) : ExitsWith rs (linearOf s p n) := by
  unfold linearOf
  simp only
  split
  · split
    · exact violation_exitsWith p
    · split
      · exact .ok _
      · exact violation_exitsWith p
  · split
    · exact .ok _
    · exact violation_exitsWith p

/-- An address translation exits with an EPT violation alone (log 36). -/
theorem translate_exitsWith (s : State) (kind : AccessKind) (user : Bool) (la : QWord) :
    ExitsWith [48] (translate s kind user la) := by
  have found (pa : Nat) :
      ExitsWith [48] (if pa < 2 ^ maxPhyAddr s then .ok pa else .error (.noPhysical pa) : Except Stop Nat) := by
    split
    · exact .ok _
    · exact ⟨fun h => by cases h⟩
  unfold translate
  simp only
  split
  · exact found _
  · exact ⟨fun h => by cases h⟩
  · split
    · exact ⟨fun h => by cases h; exact List.mem_singleton_self 48⟩
    · exact found _

theorem translateAll_exitsWith (s : State) (kind : AccessKind) (user : Bool) (la : QWord) (n : Nat) :
    ExitsWith [48] (translateAll s kind user la n) := by
  induction n generalizing la with
  | zero => exact .ok _
  | succ n ih => exact .bind (translate_exitsWith ..) fun _ => .bind (ih _) fun _ => .ok _

theorem access_exitsWith (s : State) (p : Pointer) (n : Nat) (kind : AccessKind) (implicit : Bool) (align : Nat) :
    ExitsWith [48] (access s p n kind implicit align gp0) :=
  .bind (linearOf_exitsWith ..) fun _ => .bind (.need (violation_exitsWith p)) fun _ => .bind (.need_gp0 _) fun _ =>
    translateAll_exitsWith ..

theorem readEntry_exitsWith (s : State) (base : RegNum) (i : Nat) : ExitsWith [48] (readEntry s base i) :=
  .bind (.bind (access_exitsWith ..) fun _ => .ok _) fun _ => .ok _

theorem entryAddress_exitsWith (s : State) (i : Nat) : ExitsWith [48] (entryAddress s i) :=
  .bind (readEntry_exitsWith ..) fun _ => .bind (.need_gp0 _) fun _ => .ok _

/-- The VM exit of an MSR access has the reason of its instruction. -/
theorem msrExit_exitsWith {reason : Nat} (s : State) (a : Nat) (h : reason ∈ rs) :
    ExitsWith rs (.error (msrExit s reason a) : Except Stop Unit) := by
  refine ⟨fun he => ?_⟩
  cases he
  exact h

theorem rdmsrEntry_exitsWith (i : Nat) (loads : LoadStates) (floor : QWord) (s : State) :
    ExitsWith [48, 78] (rdmsrEntry i loads floor s) :=
  .bind ((entryAddress_exitsWith ..).mono (by simp)) fun a => .bind (.need (msrExit_exitsWith s a (by simp))) fun _ =>
    .bind (.need_gp0 _) fun _ => .bind ((access_exitsWith ..).mono (by simp)) fun _ => .ok _

theorem wrmsrEntry_exitsWith (i : Nat) (loads : LoadStates) (floor : QWord) (s : State) :
    ExitsWith [48, 79] (wrmsrEntry i loads floor s) :=
  .bind ((entryAddress_exitsWith ..).mono (by simp)) fun a => .bind ((readEntry_exitsWith ..).mono (by simp)) fun _ =>
    .bind (.need (msrExit_exitsWith s a (by simp))) fun _ => .bind (.need_gp0 _) fun _ => .ok _

/-- A load-ahead fault that is a VM exit is an EPT violation. -/
theorem loadAheadFault_exitsWith {s : State} {kind : AccessKind} {i : Nat} {x : Stop}
    (h : loadAheadFault s kind i = some x) : ExitsWith [48] (.error x : Except Stop Unit) := by
  refine ⟨fun hx => ?_⟩
  cases hx
  unfold loadAheadFault at h
  split at h
  next j dataTable _ =>
    split at h
    · unfold tableFault at h
      split at h
      next => cases h
      next hacc => cases h; exact (access_exitsWith ..).reason_mem hacc
      next => cases h
    · cases h
  next => cases h

theorem msrListCheck_exitsWith (s : State) : ExitsWith rs (msrListCheck s) :=
  .bind (.need (.exc ..)) fun _ => .bind (.need_gp0 _) fun _ => .need_gp0 _

end

end Sys2Proof.Machine

namespace Sys2Proof.Machine

/-! ### What an iteration leaves alone -/

/-- Between two iterations only memory and what goes with it, registers, MSRs, timers and choices have changed; RDMSRLIST
writes no MSR of the store. -/
def listFrame (rd : Bool) (s t : State) : Prop :=
  t = { s with
    gpr := t.gpr, mem := t.mem, monitor := t.monitor, rao := t.rao, msrs := t.msrs, tsc := t.tsc
    userTimer := t.userTimer, guestTimer := t.guestTimer, fixedCtr0 := t.fixedCtr0, env := t.env, draws := t.draws } ∧
  (rd = true → t.msrs = s.msrs)

section
variable {rd : Bool} {s t u : State}

theorem listFrame_refl (rd : Bool) (s : State) : listFrame rd s s := ⟨rfl, fun _ => rfl⟩

theorem listFrame.trans (h : listFrame rd s t) (h' : listFrame rd t u) : listFrame rd s u := by
  obtain ⟨hframe, hmsrs⟩ := h
  obtain ⟨hframe', hmsrs'⟩ := h'
  refine ⟨?_, fun hrd => (hmsrs' hrd).trans (hmsrs hrd)⟩
  rw [hframe', hframe]

/-- An access finds the same linear address. -/
theorem linearOf_of_listFrame (h : listFrame rd s t) (p : Pointer) (n : Nat) : linearOf t p n = linearOf s p n := by
  rw [h.1]
  rfl

/-- The same data breakpoints match. -/
theorem anyMatch_of_listFrame (h : listFrame rd s t) (l : List DataAccess) : anyMatch t l = anyMatch s l := by
  rw [h.1]
  rfl

/-- What an access translates to depends on the translation of a byte and the order of the bytes. -/
theorem translateAll_congr (htranslate : ∀ kind user la, translate t kind user la = translate s kind user la)
    (hnext : ∀ la, t.laNext la = s.laNext la) (kind : AccessKind) (user : Bool) (la : QWord) (n : Nat) :
    translateAll t kind user la n = translateAll s kind user la n := by
  induction n generalizing la with
  | zero => rfl
  | succ n ih => rw [translateAll, translateAll, htranslate, hnext, ih]

/-- RDMSRLIST does not change what an access translates to. -/
theorem access_of_listFrame (h : listFrame true s t) (p : Pointer) (n : Nat) (kind : AccessKind) (implicit : Bool)
    (align : Nat) (misaligned : Stop) :
    access t p n kind implicit align misaligned = access s p n kind implicit align misaligned := by
  obtain ⟨hframe, hmsrs⟩ := h
  have hall (user : Bool) (la : QWord) : translateAll t kind user la n = translateAll s kind user la n :=
    translateAll_congr (fun kind user la => by rw [hframe, hmsrs rfl]; rfl) (fun la => by rw [hframe]; rfl) ..
  simp only [access, linearOf_of_listFrame ⟨hframe, hmsrs⟩, hall]
  rw [hframe]
  rfl

/-- The entries of the tables stand where they stood. -/
theorem tableEntry_of_reg {base : RegNum} (h : t.reg base = s.reg base) (i : Nat) :
    tableEntry t base i = tableEntry s base i := by rw [tableEntry, h, tableEntry]

/-- An iteration traps where it would have trapped at the start. -/
theorem entryTraps_of_listFrame (h : listFrame rd s t) (hregs : sameRegsBut s t [rcx]) (write : Bool) (i : Nat) :
    entryTraps t write i = anyMatch s (entryAccesses s write i) := by
  rw [entryTraps, anyMatch_of_listFrame h]
  simp only [entryAccesses, pointerAccess, linearOf_of_listFrame h,
    tableEntry_of_reg (hregs rsi (by decide)), tableEntry_of_reg (hregs rdi (by decide))]

/-! ### One iteration -/

/-- What an iteration for entry `i` does: before its bit of RCX is cleared, no general register has changed, and RDMSRLIST has
stored to its entry of the data table alone. -/
def entryDone (rd : Bool) (i : Nat) (t u : State) : Prop :=
  ∃ v, u = v.completeEntry i ∧ v.gpr = t.gpr ∧ listFrame rd t v ∧
    (rd = true → ∀ pa, v.mem.read pa ≠ t.mem.read pa →
      ∃ pas, access t (tableEntry t rdi i) 8 .write false 1 gp0 = .ok pas ∧ pa ∈ pas)

theorem entryDone.listFrame {i : Nat} (h : entryDone rd i t u) : listFrame rd t u := by
  obtain ⟨v, rfl, -, hv, -⟩ := h
  exact hv.trans ⟨rfl, fun _ => rfl⟩

/-- A sample draws free values, and lets the TSC go on. -/
theorem sampleMsr_after (s : State) (floor : QWord) (a : Nat) :
    (sampleMsr s floor a).after =
      { s with tsc := (sampleMsr s floor a).after.tsc, draws := (sampleMsr s floor a).after.draws } := by
  unfold sampleMsr msrRead
  split_ifs <;> rfl

theorem rdmsrEntry_done {i : Nat} {loads : LoadStates} {floor floor' : QWord}
    (h : rdmsrEntry i loads floor t = .ok (floor', u)) : entryDone true i t u := by
  simp only [rdmsrEntry, bind_eq_ok, pure_eq_ok, Prod.mk.injEq] at h
  obtain ⟨a, -, -, -, -, -, pas, hacc, -, rfl⟩ := h
  have hafter := sampleMsr_after t floor a
  refine ⟨_, rfl, ?gpr, ⟨?frame, fun _ => ?msrs⟩, fun _ pa hpa => ⟨pas, hacc, ?stored⟩⟩
  case gpr => rw [hafter]; rfl
  case frame => rw [hafter]; rfl
  case msrs => rw [hafter]; rfl
  case stored =>
    by_contra hout
    refine hpa ((read_storeBytes_other hout).trans ?_)
    rw [hafter]

theorem wrmsrEntry_done {i : Nat} {loads : LoadStates} {floor floor' : QWord}
    (h : wrmsrEntry i loads floor t = .ok (floor', u)) : entryDone false i t u := by
  simp only [wrmsrEntry, bind_eq_ok, pure_eq_ok, Prod.mk.injEq] at h
  obtain ⟨a, -, data, -, -, -, -, -, -, rfl⟩ := h
  refine ⟨_, rfl, ?gpr, ⟨?frame, fun h => by cases h⟩, fun h => by cases h⟩
  case gpr => rw [msrWrite_frame]
  case frame => rw [msrWrite_frame]

end

/-! ### Entries done -/

/-- In `u` the list begun in `s` has completed the valid entries below `m` and no other. -/
structure ListDone (rd : Bool) (s u : State) (m : Nat) : Prop where
  regs : sameRegsBut s u [rcx]
  mask : ∀ k < 64, (u.reg rcx).getLsbD k = ((s.reg rcx).getLsbD k && decide (m ≤ k))
  stored : rd = true →
    (∀ a, a ≠ 0x48 → Store.get 0 a u.msrs = Store.get 0 a s.msrs) ∧
    ∀ pa, u.mem.read pa ≠ s.mem.read pa →
      ∃ k < 64, (s.reg rcx).getLsbD k = true ∧ (u.reg rcx).getLsbD k = false ∧
        ∃ pas, access s (tableEntry s rdi k) 8 .write false 1 gp0 = .ok pas ∧ pa ∈ pas
  untouched : u.reg rcx = s.reg rcx →
    sameMemory s u ∧ ∀ a, a ≠ 0x48 → Store.get 0 a u.msrs = Store.get 0 a s.msrs

section
variable {rd : Bool} {s t u : State} {m i : Nat}

theorem listDone_refl (rd : Bool) (s : State) : ListDone rd s s 0 where
  regs _ _ := rfl
  mask k _ := by simp
  stored _ := ⟨fun _ _ => rfl, fun _ h => absurd rfl h⟩
  untouched _ := ⟨fun _ => rfl, fun _ _ => rfl⟩

/-- An entry left was valid, and is not below `m`. -/
theorem ListDone.of_bit (h : ListDone rd s t m) (hi : i < 64) (hbit : (t.reg rcx).getLsbD i = true) :
    (s.reg rcx).getLsbD i = true ∧ m ≤ i := by
  rwa [h.mask i hi, Bool.and_eq_true, decide_eq_true_eq] at hbit

/-- A valid entry no longer left is below `m`. -/
theorem ListDone.lt_of_cleared (h : ListDone rd s t m) (hi : i < 64) (hs : (s.reg rcx).getLsbD i = true)
    (ht : (t.reg rcx).getLsbD i = false) : i < m := by
  rw [h.mask i hi, hs, Bool.true_and, decide_eq_false_iff_not] at ht
  omega

/-- The entries done show in the general registers, memory and the MSRs other than IA32_SPEC_CTRL. -/
theorem ListDone.of_same (h : ListDone rd s t m) (hgpr : u.gpr = t.gpr) (hmem : u.mem = t.mem)
    (hmsrs : ∀ a, a ≠ 0x48 → Store.get 0 a u.msrs = Store.get 0 a t.msrs) : ListDone rd s u m := by
  have hreg (r : RegNum) : u.reg r = t.reg r := by rw [State.reg, hgpr, State.reg]
  refine ⟨fun r hr => (hreg r).trans (h.regs r hr), fun k hk => ?_, fun hrd => ?_, fun hrcx => ?_⟩
  · rw [hreg]
    exact h.mask k hk
  · obtain ⟨hkept, hstored⟩ := h.stored hrd
    rw [hmem, hreg]
    exact ⟨fun a ha => (hmsrs a ha).trans (hkept a ha), hstored⟩
  · obtain ⟨hkept, hmsrs'⟩ := h.untouched ((hreg rcx).symm.trans hrcx)
    refine ⟨fun pa => ?_, fun a ha => (hmsrs a ha).trans (hmsrs' a ha)⟩
    rw [hmem]
    exact hkept pa

/-- After an iteration for the first entry left, one more entry is done. -/
theorem ListDone.next (h : ListDone rd s t m) (hframe : listFrame rd s t) (hdone : entryDone rd i t u) (hi : i < 64)
    (hbit : (t.reg rcx).getLsbD i = true) (hbelow : ∀ j < i, (t.reg rcx).getLsbD j = false) :
    ListDone rd s u (i + 1) := by
  obtain ⟨v, rfl, hgpr, hv, hstore⟩ := hdone
  have hreg (r : RegNum) : v.reg r = t.reg r := by rw [State.reg, hgpr, State.reg]
  have hbits (k : Nat) : ((v.completeEntry i).reg rcx).getLsbD k = ((t.reg rcx).getLsbD k && decide (i ≠ k)) := by
    rw [getLsbD_completeEntry, hreg]
  obtain ⟨hsi, hm⟩ := h.of_bit hi hbit
  have hui : ((v.completeEntry i).reg rcx).getLsbD i = false := by
    rw [hbits, decide_eq_false (not_not_intro rfl), Bool.and_false]
  refine ⟨fun r hr => ?regs, fun k hk => ?mask, fun hrd => ⟨fun a ha => ?msrs, fun pa hpa => ?mem⟩, fun hrcx => ?touched⟩
  case regs =>
    rw [completeEntry_reg_other _ _ (List.ne_of_not_mem_cons hr), hreg]
    exact h.regs r hr
  case mask =>
    rw [hbits]
    obtain hlt | rfl | hgt := Nat.lt_trichotomy k i
    · rw [hbelow k hlt, decide_eq_false (by omega : ¬ i + 1 ≤ k), Bool.and_false, Bool.false_and]
    · simp
    · rw [h.mask k hk, decide_eq_true (by omega : m ≤ k), decide_eq_true (by omega : i + 1 ≤ k),
        decide_eq_true (by omega : i ≠ k), Bool.and_true]
  case msrs =>
    obtain ⟨-, hmsrs⟩ := hv
    rw [State.completeEntry_msrs, hmsrs hrd]
    exact (h.stored hrd).1 a ha
  case mem =>
    rw [State.completeEntry_mem] at hpa
    by_cases hpa' : v.mem.read pa = t.mem.read pa
    · rw [hpa'] at hpa
      obtain ⟨k, hk, hsk, htk, hpas⟩ := (h.stored hrd).2 pa hpa
      exact ⟨k, hk, hsk, by rw [hbits, htk, Bool.false_and], hpas⟩
    · obtain ⟨pas, hacc, hin⟩ := hstore hrd pa hpa'
      subst hrd
      rw [access_of_listFrame hframe, tableEntry_of_reg (h.regs rdi (by decide))] at hacc
      exact ⟨i, hi, hsi, hui, pas, hacc, hin⟩
  case touched =>
    rw [hrcx, hsi] at hui
    cases hui

/-! ### The outcomes of a list -/

/-- No data breakpoint matches an access of a valid entry below `m`. -/
def quietBelow (rd : Bool) (s : State) (m : Nat) : Prop :=
  ∀ k < m, (s.reg rcx).getLsbD k = true → anyMatch s (entryAccesses s rd k) = false

/-- The valid entries before the first one left are done. -/
theorem quietBelow.of_first (h : quietBelow rd s m) (hdone : ListDone rd s t m) (hi : i < 64)
    (hbelow : ∀ j < i, (t.reg rcx).getLsbD j = false) : quietBelow rd s i := fun k hk hsk =>
  h k (hdone.lt_of_cleared (by omega) hsk (hbelow k hk)) hsk

theorem quietBelow.succ (h : quietBelow rd s i) (hcalm : anyMatch s (entryAccesses s rd i) = false) :
    quietBelow rd s (i + 1) := by
  intro k hk hsk
  obtain hk | rfl := Nat.lt_succ_iff_lt_or_eq.mp hk
  · exact h k hk hsk
  · exact hcalm

/-- What a list begun in `s` can come to: it stops between two iterations, it completes with no entry left, or it ends after
the iteration of an entry at which the environment has an event or a data breakpoint matched (44 R294). -/
inductive ListOutcome (rd : Bool) (s : State) : Host.Outcome State Fault Refusal → Prop
  | stopped {t : State} {m : Nat} {x : Stop} (hdone : ListDone rd s t m) (hframe : listFrame rd s t)
      (hquiet : quietBelow rd s m)
      (hexit : ExitsWith [48, if rd then 78 else 79] (.error x : Except Stop Unit)) : ListOutcome rd s (raise x t)
  | completed {t : State} {m : Nat} (hdone : ListDone rd s t m) (hframe : listFrame rd s t)
      (hquiet : quietBelow rd s m) (hrcx : t.reg rcx = 0) : ListOutcome rd s (.next t.retire)
  | paused {t : State} {i : Nat} (hdone : ListDone rd s t (i + 1)) (hframe : listFrame rd s t)
      (hquiet : quietBelow rd s i) (hi : i < 64) (hbit : (s.reg rcx).getLsbD i = true)
      (hwhy : interruptedHere t = true ∨ anyMatch s (entryAccesses s rd i) = true) : ListOutcome rd s (.next t.pauseList)

/-- A list whose iterations each do their one entry has one of the outcomes: there is an iteration for every bit of RCX. -/
theorem msrListLoop_outcome {kind : AccessKind}
    {body : Nat → LoadStates → QWord → State → Except Stop (QWord × State)} (hkind : decide (kind = .write) = rd)
    (hbody : ∀ {i loads floor floor' t u}, body i loads floor t = .ok (floor', u) → entryDone rd i t u)
    (hexit : ∀ i loads floor t, ExitsWith [48, if rd then 78 else 79] (body i loads floor t))
    {n : Nat} {earlier : List State} {floor : QWord} (hdone : ListDone rd s t m) (hframe : listFrame rd s t)
    (hquiet : quietBelow rd s m) (hn : 64 ≤ n + m) : ListOutcome rd s (msrListLoop kind body n earlier floor t) := by
  induction n generalizing earlier floor t m with
  | zero =>
    refine .completed hdone hframe hquiet (BitVec.eq_of_getLsbD_eq fun k hk => ?_)
    rw [hdone.mask k hk, decide_eq_false (by omega), Bool.and_false]
    exact (BitVec.getLsbD_zero ..).symm
  | succ n ih =>
    rw [msrListLoop]
    split
    next hrcx => exact .completed hdone hframe hquiet hrcx
    next hrcx =>
      obtain ⟨hi, hbit, hbelow⟩ := lowestBit_of_ne_zero hrcx
      generalize lowestBit (t.reg rcx) = i at hi hbit hbelow
      obtain ⟨hsi, hm⟩ := hdone.of_bit hi hbit
      have hquietI : quietBelow rd s i := hquiet.of_first hdone hi hbelow
      have hdone' : ListDone rd s t.dropLoadAhead m := hdone.of_same rfl rfl fun _ _ => rfl
      have hframe' : listFrame rd s t.dropLoadAhead := hframe.trans ⟨rfl, fun _ => rfl⟩
      simp only
      split
      next x hx => exact .stopped hdone' hframe' hquiet ((loadAheadFault_exitsWith hx).mono (by simp))
      next =>
        split
        next x hx => exact .stopped hdone' hframe' hquiet ⟨fun h => by cases h; exact (hexit ..).reason_mem hx⟩
        next floor' u hu =>
          have hentry : entryDone rd i t.dropLoadAhead u := hbody hu
          have hdoneU : ListDone rd s u (i + 1) := hdone'.next hframe' hentry hi hbit hbelow
          have hframeU : listFrame rd s u := hframe'.trans hentry.listFrame
          rw [hkind, entryTraps_of_listFrame hframe hdone.regs]
          split
          next hwhy => exact .paused hdoneU hframeU hquietI hi hsi (by simpa using hwhy)
          next hgo =>
            obtain ⟨-, hcalm⟩ : interruptedHere u = false ∧ anyMatch s (entryAccesses s rd i) = false := by
              simpa using hgo
            exact ih (hdoneU.of_same rfl rfl fun _ _ => rfl) (hframeU.trans ⟨rfl, fun _ => rfl⟩)
              (hquietI.succ hcalm) (by omega)

/-- The checks of a list stop it before anything is done. -/
theorem ListOutcome.of_check {x : Stop} (h : msrListCheck s = .error x) : ListOutcome rd s (raise x s) :=
  .stopped (listDone_refl rd s) (listFrame_refl rd s) (fun _ hk => absurd hk (Nat.not_lt_zero _))
    ⟨fun hx => by cases hx; exact (msrListCheck_exitsWith s).reason_mem h⟩

theorem exec_rdmsrlist_outcome (s : State) : ListOutcome true s (exec .rdmsrlist s) := by
  cases hcheck : msrListCheck s with
  | error x => rw [exec_rdmsrlist_of_check hcheck]; exact .of_check hcheck
  | ok =>
    rw [exec_rdmsrlist_of_ok hcheck]
    exact msrListLoop_outcome (kind := .write) rfl rdmsrEntry_done rdmsrEntry_exitsWith (listDone_refl true s)
      (listFrame_refl true s) (fun _ hk => absurd hk (Nat.not_lt_zero _)) le_rfl

theorem exec_wrmsrlist_outcome (s : State) : ListOutcome false s (exec .wrmsrlist s) := by
  cases hcheck : msrListCheck s with
  | error x => rw [exec_wrmsrlist_of_check hcheck]; exact .of_check hcheck
  | ok =>
    rw [exec_wrmsrlist_of_ok hcheck]
    exact msrListLoop_outcome (kind := .read) rfl wrmsrEntry_done wrmsrEntry_exitsWith (listDone_refl false s)
      (listFrame_refl false s) (fun _ hk => absurd hk (Nat.not_lt_zero _)) le_rfl

/-! ### The statement -/

/-- A VM exit leaves every MSR but IA32_SPEC_CTRL (60 R545). -/
theorem get_vmExitState (s : State) {a : Nat} (ha : a ≠ 0x48) :
    Store.get 0 a (vmExitState s).msrs = Store.get 0 a s.msrs := by
  unfold vmExitState
  simp only
  split_ifs
  · exact Store.get_set_other ha
  · exact Store.get_set_other ha
  · rfl
  · rfl

theorem vmExitState_frame (s : State) :
    vmExitState s = { s with vmcs := (vmExitState s).vmcs, msrs := (vmExitState s).msrs } := by
  unfold vmExitState
  simp only
  split_ifs <;> rfl

/-- Stopping leaves RIP, the general registers, memory and the MSRs other than IA32_SPEC_CTRL. -/
theorem raise_fault_state {x : Stop} {f : Fault} (h : raise x t = .fault f) :
    f.state.rip = t.rip ∧ f.state.gpr = t.gpr ∧ f.state.mem = t.mem ∧
      ∀ a, a ≠ 0x48 → Store.get 0 a f.state.msrs = Store.get 0 a t.msrs := by
  cases x with
  | exc | pageFault | noPhysical => cases h; exact ⟨rfl, rfl, rfl, fun _ _ => rfl⟩
  | vmExit =>
    cases h
    simp only [Fault.state]
    exact ⟨by rw [vmExitState_frame], by rw [vmExitState_frame], by rw [vmExitState_frame], fun _ => get_vmExitState t⟩
  | refuse => cases h

/-- A stop that is a VM exit has one of the reasons, and an exception is at the instruction. -/
theorem ExitsWith.of_raise {rs : List Nat} {x : Stop} {reason : Nat} {q len : QWord} {info : DWord}
    (hx : ExitsWith rs (.error x : Except Stop Unit)) (h : raise x t = .fault (.vmExit reason q len info u)) :
    reason ∈ rs := by
  cases x with
  | vmExit => cases h; exact hx.reason_mem rfl
  | exc | pageFault | noPhysical | refuse => cases h

end

section
variable {rd : Bool} {s t u : State} {m i : Nat}

/-- A next state is no fault. -/
theorem next_ne_fault {f : Fault} : (.next t : Host.Outcome State Fault Refusal) ≠ .fault f := nofun

/-- No entry done but one at which the list ended was matched by a data breakpoint. -/
theorem ListDone.not_matched (h : ListDone rd s t m) (hquiet : quietBelow rd s m) (hi : i < 64)
    (hs : (s.reg rcx).getLsbD i = true) (ht : (t.reg rcx).getLsbD i = false) :
    anyMatch s (entryAccesses s rd i) ≠ true :=
  ne_true_of_eq_false (hquiet i (h.lt_of_cleared hi hs ht) hs)

/-- A data breakpoint that matched an access of an entry done is noted. -/
theorem dataMatches_list_ne_nil {j : Instr} (hj : dataAccesses s u j = listAccesses s u rd) (hi : i < 64)
    (hs : (s.reg rcx).getLsbD i = true) (hu : (u.reg rcx).getLsbD i = false)
    (hmatch : anyMatch s (entryAccesses s rd i) = true) : dataMatches s u j ≠ [] := by
  obtain ⟨a, ha, x, hx⟩ := anyMatch_eq_true.mp hmatch
  refine List.ne_nil_of_mem (mem_dataMatches.mpr ⟨a, ?_, hx⟩)
  rw [hj, listAccesses, List.mem_flatMap]
  exact ⟨i, List.mem_filter.mpr ⟨List.mem_range.mpr hi, by rw [hs, hu]; rfl⟩, ha⟩

end

/-- Settles O15: whatever the outcome, the entries done are those below some number, and each outcome says why the step
ended. -/
theorem listPartialCompletion : Obligations.ListPartialCompletion := by
  unfold Obligations.ListPartialCompletion
  intro i s u hi hu
  obtain ⟨rd, hrd, haccesses, ho⟩ : ∃ rd, (i = .rdmsrlist ↔ rd = true) ∧
      dataAccesses s u i = listAccesses s u rd ∧ ListOutcome rd s (exec i s) := by
    obtain rfl | rfl := hi
    · exact ⟨true, by simp, rfl, exec_rdmsrlist_outcome s⟩
    · exact ⟨false, by simp, rfl, exec_wrmsrlist_outcome s⟩
  simp only [hrd, Bool.decide_eq_true]
  generalize exec i s = o at ho hu ⊢
  cases ho with
  | @stopped t m x hdone hframe hquiet hexit =>
    obtain ⟨f, hf, rfl⟩ := hu.resolve_right (raise_ne_next x t u)
    obtain ⟨hrip, hgpr, hmem, hmsrs⟩ := raise_fault_state hf
    have hd : ListDone rd s f.state m := hdone.of_same hgpr hmem hmsrs
    have hsrip : t.rip = s.rip := by rw [hframe.1]
    refine ⟨hd.regs, ⟨m, hd.mask⟩, hd.stored, hd.untouched, fun _ _ => hrip.trans hsrip, fun _ _ _ he => ?exception,
      fun _ _ _ _ he => ?exit, fun he => absurd he (raise_ne_next x t _),
      fun k hk hs ht hm => absurd hm (hd.not_matched hquiet hk hs ht)⟩
    case exception =>
      obtain ⟨hat, -⟩ := raise_exception he
      exact hat.trans hsrip
    case exit => simpa using hexit.of_raise he
  | @completed t m hdone hframe hquiet hrcx =>
    obtain ⟨f, hf, -⟩ | hu := hu
    · cases hf
    cases hu
    have hd : ListDone rd s t.retire m := hdone.of_same rfl rfl fun _ _ => rfl
    refine ⟨hd.regs, ⟨m, hd.mask⟩, hd.stored, hd.untouched, fun _ he => absurd he next_ne_fault,
      fun _ _ _ he => absurd he next_ne_fault, fun _ _ _ _ he => absurd he next_ne_fault, fun _ => .inl ⟨?rip, hrcx⟩,
      fun k hk hs ht hm => absurd hm (hd.not_matched hquiet hk hs ht)⟩
    case rip =>
      rw [hframe.1]
      rfl
  | @paused t i hdone hframe hquiet hi hbit hwhy =>
    obtain ⟨f, hf, -⟩ | hu := hu
    · cases hf
    cases hu
    have hd : ListDone rd s t.pauseList (i + 1) := hdone.of_same rfl rfl fun _ _ => rfl
    have hrip : t.pauseList.rip = s.rip := by rw [State.pauseList_rip, hframe.1]
    have hcleared : (t.pauseList.reg rcx).getLsbD i = false := by
      rw [hd.mask i hi, decide_eq_false (Nat.not_succ_le_self i), Bool.and_false]
    refine ⟨hd.regs, ⟨i + 1, hd.mask⟩, hd.stored, hd.untouched, fun _ he => absurd he next_ne_fault,
      fun _ _ _ he => absurd he next_ne_fault, fun _ _ _ _ he => absurd he next_ne_fault,
      fun _ => .inr ⟨hrip, ?lost, ?why⟩, fun k hk hs ht hm => ⟨rfl, hrip, ?later⟩⟩
    case lost =>
      intro hrcx
      rw [hrcx, hbit] at hcleared
      cases hcleared
    case why =>
      obtain hevent | hmatch := hwhy
      · exact .inl (by simpa [interruptedHere] using hevent)
      · exact .inr (dataMatches_list_ne_nil haccesses hi hbit hcleared hmatch)
    case later =>
      have hki : ¬ k < i := fun hlt => ne_true_of_eq_false (hquiet k hlt hs) hm
      intro j hj
      by_cases hj64 : j < 64
      · rw [hd.mask j hj64, decide_eq_true (by omega), Bool.and_true]
      · rw [BitVec.getLsbD_of_ge _ j (by omega), BitVec.getLsbD_of_ge _ j (by omega)]

end Sys2Proof.Machine

/-! ## Control state (10_state R30 to R32, R35, R41, R74) -/

namespace Sys2Proof.Machine

section
variable {i : Instr} {s t : State}

/-- What controls the processor and is written by no instruction of the model: control registers, XCR0, debug registers,
segments, MXCSR, the VMCS and the processor's parameters. -/
def controlState (s : State) :=
  (s.cr0, s.cr2, s.cr3, s.cr4, s.xcr0, s.dr0, s.dr1, s.dr2, s.dr3, s.dr7, s.segs, s.mxcsr, s.vmcs, s.platform)

/-- No elementary update of an instruction reaches the control state. -/
theorem InstrUpdate.controlState_eq (h : InstrUpdate i s t) : controlState t = controlState s := by
  cases h with
  | work h => rw [h]; rfl
  | drain => rw [raoDrain_frame]; rfl
  | msr _ a v => rw [msrWrite_frame]; rfl
  | branchRecord => simp [controlState]
  | flags | wait | store | sampleTsc | tmeKey | tseKey => rfl

end

/-- Settles O12: the elementary updates of every instruction keep the control state, so its components are as before. -/
theorem controlStateNeverWritten : Obligations.ControlStateNeverWritten := by
  unfold Obligations.ControlStateNeverWritten
  intro i s t h
  have hcontrol := (exec_updates h).keeps fun _ _ => InstrUpdate.controlState_eq
  simpa only [controlState, Prod.mk.injEq] using hcontrol

end Sys2Proof.Machine

/-! ## Vector instructions that write packed elements (10_state R40, 60 R486) -/

namespace Sys2Proof.Machine

section
variable {s t : State} {d : RegNum} {fs : List Feature}

/-- The enables of a vector instruction are what its checks ask for. -/
theorem vexCheck_of_ready (h : vexReady s fs) : vexCheck s fs = .ok () := by
  obtain ⟨hfeatures, havx, hreal, hv86, hts⟩ := h
  have henum : fs.all (enumerated s) = true := List.all_eq_true.mpr hfeatures
  rw [vexCheck, henum, havx, decide_eq_true hreal, decide_eq_true hv86, hts]
  rfl

/-- Writing one vector register and retiring changes nothing else. -/
theorem onlyVreg_setVreg_retire (s : State) (d : RegNum) (v : Vec) : onlyVreg s (s.setVreg d v).retire d :=
  ⟨completesPlain_retire rfl, fun _ hr => State.vreg_setVreg_other s v hr, fun _ _ => rfl, rfl, fun _ => rfl, rfl, rfl⟩

/-- From `s` to `t` an instruction with destination `d` has completed: the first `k` elements of `w` bits are
`f 0`, `f 1`, ..., the bits above are 0, and nothing else has changed. -/
def packsInto {w : Nat} (s t : State) (d : RegNum) (k : Nat) (f : Nat → BitVec w) : Prop :=
  (∀ j < k, elem w (t.vreg d) j = f j) ∧ (∀ j ≥ w * k, (t.vreg d).getLsbD j = false) ∧ onlyVreg s t d

theorem packsInto_setVreg_retire {w k : Nat} (hk : w * k ≤ 512) (s : State) (d : RegNum) (f : Nat → BitVec w) :
    packsInto s (s.setVreg d (pack k f)).retire d k f := by
  refine ⟨fun j hj => ?element, fun j hj => ?high, onlyVreg_setVreg_retire s d _⟩
  case element => rw [State.retire_vreg, State.vreg_setVreg_same, elem_pack f hj hk]
  case high => rw [State.retire_vreg, State.vreg_setVreg_same, pack_high f hj]

/-! ### The shapes of AVX-NE-CONVERT (45 R333, R334) -/

/-- A packed conversion that is enabled and whose source is readable completes. -/
theorem neConvert_completes {w n k : Nat} {b : RM} {v : Vec} (hready : vexReady s [.avxNeConvert])
    (hv : rmSource s b n = .ok v) (hk : w * k ≤ 512) (f : Vec → Nat → BitVec w) :
    ∃ t, neConvert s d b n k f = .next t ∧ packsInto s t d k (f v) :=
  ⟨_, vexOp_completes (vexCheck_of_ready hready) hv, packsInto_setVreg_retire hk s d (f v)⟩

/-- A broadcast that is enabled and whose element is readable completes. -/
theorem neBroadcast_completes {k : Nat} {m : MemOp} {bs : List Byte} (hready : vexReady s [.avxNeConvert])
    (hbs : memReadChecked s (memPointer s m) 2 = .ok bs) (hk : 32 * k ≤ 512) (f : BitVec 16 → DWord) :
    ∃ t, neBroadcast s d m k f = .next t ∧ packsInto s t d k fun _ => f (BitVec.ofNat 16 (leNat bs)) := by
  refine ⟨_, ?_, packsInto_setVreg_retire hk s d _⟩
  rw [neBroadcast, vexCheck_of_ready hready, hbs]
  rfl

end

end Sys2Proof.Machine

/-! ## Bit strings as numbers -/

namespace Sys2Proof.Machine

/-- The number in `len` bits from bit `start`. -/
theorem toNat_extractLsb'_eq_mod {n : Nat} (x : BitVec n) (start len : Nat) :
    (x.extractLsb' start len).toNat = x.toNat / 2 ^ start % 2 ^ len := by
  rw [BitVec.extractLsb'_toNat, Nat.shiftRight_eq_div_pow]

/-- The number of two bit strings, one above the other. -/
theorem toNat_append_eq_add {m n : Nat} (x : BitVec m) (y : BitVec n) : (x ++ y).toNat = x.toNat * 2 ^ n + y.toNat := by
  rw [BitVec.toNat_append, ← Nat.shiftLeft_add_eq_or_of_lt y.isLt, Nat.shiftLeft_eq]

end Sys2Proof.Machine

/-! ## AVX-NE-CONVERT: the packed conversions and the broadcasts (45 R333 to R340) -/

namespace Sys2Proof.Machine

/-- A doubleword is its odd word above its even word. -/
theorem dword_eq_words (v : Vec) (j : Nat) : dword v j = word16 v (2 * j + 1) ++ word16 v (2 * j) := by
  have heven : 32 * j = 16 * (2 * j) := by omega
  unfold dword word16 elem
  rw [BitVec.extractLsb'_append_extractLsb'_eq_extractLsb' (Nat.mul_succ 16 (2 * j)), heven]

/-- An even BF16 element converts by moving up in its doubleword. -/
theorem evenWords_bf16ToFp32 (v : Vec) (j : Nat) : evenWords bf16ToFp32 v j = dword v j <<< 16 := by
  rw [dword_eq_words, BitVec.shiftLeft_eq_concat_of_lt (by decide), BitVec.cast_eq, BitVec.extractLsb'_append_eq_right]
  rfl

/-- An odd BF16 element converts by clearing the word below it. -/
theorem oddWords_bf16ToFp32 (v : Vec) (j : Nat) : oddWords bf16ToFp32 v j = dword v j &&& 0xFFFF0000 := by
  have hmask : (0xFFFF0000 : DWord) = BitVec.allOnes 16 ++ (0 : BitVec 16) := rfl
  rw [dword_eq_words, hmask, BitVec.and_append, BitVec.and_allOnes, BitVec.ofNat_eq_ofNat, BitVec.and_zero]
  rfl

/-- The bits of the doublewords of a 128-bit or 256-bit vector. -/
theorem dwords_bits (wide : Bool) : 32 * (if wide then 8 else 4) = if wide then 256 else 128 := by cases wide <;> rfl

theorem dwords_bits_le (wide : Bool) : 32 * (if wide then 8 else 4) ≤ 512 := by cases wide <;> decide

/-- Settles O41: each of the eight is one packed conversion, which completes with its elements. -/
theorem neConvertEvenOdd : Obligations.NeConvertEvenOdd := by
  unfold Obligations.NeConvertEvenOdd
  intro d m v s wide hready hv i f hi
  obtain ⟨g, hexec, rfl⟩ : ∃ g : Vec → Nat → DWord,
      exec i s = neConvert s d (.mem m) (if wide then 32 else 16) (if wide then 8 else 4) g ∧ g v = f := by
    simp only [List.mem_cons, List.not_mem_nil, or_false, Prod.mk.injEq] at hi
    obtain ⟨rfl, rfl⟩ | ⟨rfl, rfl⟩ | ⟨rfl, rfl⟩ | ⟨rfl, rfl⟩ := hi
    · exact ⟨evenWords bf16ToFp32, by cases wide <;> rfl, funext (evenWords_bf16ToFp32 v)⟩
    · exact ⟨oddWords bf16ToFp32, by cases wide <;> rfl, funext (oddWords_bf16ToFp32 v)⟩
    · exact ⟨evenWords s.fp16, by cases wide <;> rfl, rfl⟩
    · exact ⟨oddWords s.fp16, by cases wide <;> rfl, rfl⟩
  rw [hexec, ← dwords_bits]
  exact neConvert_completes hready hv (dwords_bits_le wide) g

/-- Two bytes in memory are the word with the first byte lowest. -/
theorem ofNat_leNat_pair (lo hi : Byte) : BitVec.ofNat 16 (leNat [lo, hi]) = hi ++ lo := by
  apply BitVec.eq_of_toNat_eq
  have hlo := lo.isLt
  have hhi := hi.isLt
  rw [BitVec.toNat_ofNat, toNat_append_eq_add]
  simp only [leNat]
  omega

/-- Settles O42: each of the four is one broadcast, whose element is its two bytes. -/
theorem neBroadcastResult : Obligations.NeBroadcastResult := by
  unfold Obligations.NeBroadcastResult
  intro d m lo hi s wide hready hread i x hix
  obtain ⟨g, hexec, rfl⟩ : ∃ g : BitVec 16 → DWord,
      exec i s = neBroadcast s d m (if wide then 8 else 4) g ∧ g (hi ++ lo) = x := by
    simp only [List.mem_cons, List.not_mem_nil, or_false, Prod.mk.injEq] at hix
    obtain ⟨rfl, rfl⟩ | ⟨rfl, rfl⟩ := hix
    · exact ⟨bf16ToFp32, by cases wide <;> rfl, rfl⟩
    · exact ⟨s.fp16, by cases wide <;> rfl, rfl⟩
  rw [hexec, ← dwords_bits, ← ofNat_leNat_pair]
  exact neBroadcast_completes hready hread (dwords_bits_le wide) g

end Sys2Proof.Machine

/-! ## VCVTNEPS2BF16 (45 R341) -/

namespace Sys2Proof.Machine

section
variable {x : DWord}

/-- The exponent field of a doubleword, as a bit string and as a number. -/
theorem exponent_eq_iff (e : BitVec 8) : x.extractLsb' 23 8 = e ↔ x.toNat / 2 ^ 23 % 256 = e.toNat := by
  rw [← BitVec.toNat_inj, toNat_extractLsb'_eq_mod]
  rfl

/-- The fraction field of a doubleword is 0. -/
theorem fraction_eq_zero_iff : x.extractLsb' 0 23 = 0 ↔ x.toNat % 2 ^ 23 = 0 := by
  rw [← BitVec.toNat_inj, toNat_extractLsb'_eq_mod, pow_zero, Nat.div_one]
  rfl

/-- The upper half of a doubleword. -/
theorem toNat_upperHalf (x : DWord) : (x.extractLsb' 16 16).toNat = x.toNat / 2 ^ 16 := by
  have hx := x.isLt
  rw [toNat_extractLsb'_eq_mod]
  omega

/-- A zero or a denormal becomes a zero of its sign. -/
theorem fp32ToBf16_of_exponent_zero (he : x.toNat / 2 ^ 23 % 256 = 0) :
    (fp32ToBf16 x).toNat = x.toNat / 2 ^ 31 * 2 ^ 15 := by
  have hx := x.isLt
  have hsign : x.toNat / 2 ^ 31 % 2 ^ 1 = x.toNat / 2 ^ 31 := by omega
  rw [fp32ToBf16, if_pos ((exponent_eq_iff 0).mpr he), toNat_append_eq_add, toNat_extractLsb'_eq_mod, hsign]
  exact Nat.add_zero _

/-- An infinity becomes its upper half. -/
theorem fp32ToBf16_of_infinity (he : x.toNat / 2 ^ 23 % 256 = 255) (hf : x.toNat % 2 ^ 23 = 0) :
    (fp32ToBf16 x).toNat = x.toNat / 2 ^ 16 := by
  have he0 : x.extractLsb' 23 8 ≠ 0 := by rw [ne_eq, exponent_eq_iff, he]; decide
  rw [fp32ToBf16, if_neg he0, if_pos ((exponent_eq_iff 0xFF).mpr he), if_pos (fraction_eq_zero_iff.mpr hf),
    toNat_upperHalf]

/-- A NaN becomes its upper half, quiet. -/
theorem fp32ToBf16_of_nan (he : x.toNat / 2 ^ 23 % 256 = 255) (hf : x.toNat % 2 ^ 23 ≠ 0) :
    (fp32ToBf16 x).toNat = x.toNat / 2 ^ 16 ||| 0x40 := by
  have he0 : x.extractLsb' 23 8 ≠ 0 := by rw [ne_eq, exponent_eq_iff, he]; decide
  rw [fp32ToBf16, if_neg he0, if_pos ((exponent_eq_iff 0xFF).mpr he), if_neg (mt fraction_eq_zero_iff.mp hf),
    BitVec.toNat_or, toNat_upperHalf]
  rfl

/-- Any other number is rounded to the nearest even. Its exponent is at most 254, so the rounding does not leave the 32
bits. -/
theorem fp32ToBf16_of_normal (he0 : x.toNat / 2 ^ 23 % 256 ≠ 0) (he255 : x.toNat / 2 ^ 23 % 256 ≠ 255) :
    (fp32ToBf16 x).toNat = (x.toNat + 0x7FFF + x.toNat / 2 ^ 16 % 2) / 2 ^ 16 := by
  have hx := x.isLt
  have hbias : (0x7FFF : DWord).toNat = 0x7FFF := rfl
  have hbound : x.toNat < 255 * 2 ^ 23 + 2 ^ 31 := by omega
  rw [fp32ToBf16, if_neg (mt (exponent_eq_iff 0).mp he0), if_neg (mt (exponent_eq_iff 0xFF).mp he255),
    toNat_upperHalf, BitVec.toNat_add, BitVec.toNat_add, BitVec.toNat_setWidth, toNat_extractLsb'_eq_mod, hbias]
  omega

end

/-- Settles O43: each word is the converted dword, and the class of the dword decides which case of the conversion. -/
theorem neConvertToBf16 : Obligations.NeConvertToBf16 := by
  unfold Obligations.NeConvertToBf16
  intro d b v s wide hready hv
  have hexec : exec (if wide then .vcvtneps2bf16256 d b else .vcvtneps2bf16128 d b) s =
      neConvert s d b (if wide then 32 else 16) (if wide then 8 else 4) fun v i => fp32ToBf16 (dword v i) := by
    cases wide <;> rfl
  have hlength : 16 * (if wide then 8 else 4) = if wide then 128 else 64 := by cases wide <;> rfl
  obtain ⟨t, ht, hword, hhigh, hframe⟩ := neConvert_completes hready hv (by cases wide <;> decide)
    (d := d) (k := if wide then 8 else 4) fun v i => fp32ToBf16 (dword v i)
  refine ⟨t, hexec.trans ht, fun j hj => ?_, hlength ▸ hhigh, hframe⟩
  rw [word16, hword j hj]
  exact ⟨fp32ToBf16_of_exponent_zero, fp32ToBf16_of_nan, fp32ToBf16_of_infinity, fp32ToBf16_of_normal⟩

end Sys2Proof.Machine

/-! ## The FP16 to FP32 conversion (45 R331, R332) -/

namespace Sys2Proof.Machine

section
variable {x : DWord} {sign : Bool} {e f : Nat}

/-- The sign, biased exponent and fraction of an FP32 number. -/
structure FpFields (x : DWord) (sign : Bool) (e f : Nat) : Prop where
  sign : fpSign x = sign
  exp : fpExp x = e
  frac : fpFrac x = f

/-- The fields of a number put together from them. -/
theorem FpFields.of_toNat (he : e < 2 ^ 8) (hf : f < 2 ^ 23) (hx : x.toNat = sign.toNat * 2 ^ 31 + e * 2 ^ 23 + f) :
    FpFields x sign e f where
  sign := by
    rw [fpSign, BitVec.msb_eq_decide, hx]
    cases sign with
    | false => exact decide_eq_false (by rw [Bool.toNat_false]; omega)
    | true => exact decide_eq_true (by rw [Bool.toNat_true]; omega)
  exp := by
    have hsign := sign.toNat_le
    rw [fpExp, hx]
    omega
  frac := by
    rw [fpFrac, hx]
    omega

/-- The value of a normal number from its fields. -/
theorem FpFields.units_of_normal (h : FpFields x sign e f) (he : e ≠ 0) {n : Nat}
    (hn : (2 ^ 23 + f) * 2 ^ (e - 1) = n * 2 ^ 125) : fpUnits x = (if sign then -(n : Int) else n) * 2 ^ 125 := by
  rw [fpUnits, h.sign, h.exp, h.frac, if_neg he, hn]
  cases sign <;> simp

end

section
variable {h : BitVec 16} (quiet : Bool)

/-- The sign field of an FP16 number. -/
theorem toNat_fp16Sign (h : BitVec 16) : (h.extractLsb' 15 1).toNat = h.msb.toNat := by
  have hh := h.isLt
  rw [toNat_extractLsb'_eq_mod, BitVec.msb_eq_decide]
  by_cases hsign : 2 ^ (16 - 1) ≤ h.toNat
  · rw [decide_eq_true hsign, Bool.toNat_true]
    omega
  · rw [decide_eq_false hsign, Bool.toNat_false]
    omega

/-- The exponent field of an FP16 number. -/
theorem toNat_fp16Exp (h : BitVec 16) : (h.extractLsb' 10 5).toNat = h.toNat / 2 ^ 10 % 32 :=
  toNat_extractLsb'_eq_mod h 10 5

/-- The fraction field of an FP16 number. -/
theorem toNat_fp16Frac (h : BitVec 16) : (h.extractLsb' 0 10).toNat = h.toNat % 2 ^ 10 := by
  rw [toNat_extractLsb'_eq_mod, pow_zero, Nat.div_one]

theorem fp16Frac_eq_zero_iff : h.extractLsb' 0 10 = 0 ↔ h.toNat % 2 ^ 10 = 0 := by
  rw [← BitVec.toNat_inj, toNat_fp16Frac]
  rfl

theorem fp16ToFp32_fields_of_zero (he : h.toNat / 2 ^ 10 % 32 = 0) (hf : h.toNat % 2 ^ 10 = 0) :
    FpFields (fp16ToFp32 quiet h) h.msb 0 0 := by
  refine .of_toNat (by decide) (by decide) ?_
  rw [fp16ToFp32, if_pos ((toNat_fp16Exp h).trans he), if_pos (fp16Frac_eq_zero_iff.mpr hf), toNat_append_eq_add,
    toNat_fp16Sign]
  change _ + 0 = _
  ring

/-- A denormal FP16 number becomes a normal number: its leading bit is the hidden one. -/
theorem fp16ToFp32_fields_of_denormal (he : h.toNat / 2 ^ 10 % 32 = 0) (hf : h.toNat % 2 ^ 10 ≠ 0) {k : Nat}
    (hk : k = Nat.log2 (h.toNat % 2 ^ 10)) :
    FpFields (fp16ToFp32 quiet h) h.msb (103 + k) (h.toNat % 2 ^ 10 * 2 ^ (23 - k) % 2 ^ 23) := by
  have hk10 : k < 10 := by
    rw [hk, Nat.log2_lt hf]
    exact Nat.mod_lt _ (by decide)
  refine .of_toNat (by omega) (Nat.mod_lt _ (by decide)) ?_
  rw [fp16ToFp32, if_pos ((toNat_fp16Exp h).trans he), if_neg (mt fp16Frac_eq_zero_iff.mp hf), toNat_fp16Frac, ← hk,
    toNat_append_eq_add, toNat_append_eq_add, toNat_fp16Sign, BitVec.toNat_ofNat, BitVec.toNat_ofNat,
    Nat.mod_eq_of_lt (show 103 + k < 2 ^ 8 by omega)]
  ring

theorem fp16ToFp32_fields_of_normal (he0 : h.toNat / 2 ^ 10 % 32 ≠ 0) (he31 : h.toNat / 2 ^ 10 % 32 ≠ 31) :
    FpFields (fp16ToFp32 quiet h) h.msb (h.toNat / 2 ^ 10 % 32 + 112) (h.toNat % 2 ^ 10 * 2 ^ 13) := by
  refine .of_toNat (by omega) (by omega) ?_
  rw [fp16ToFp32, toNat_fp16Exp, if_neg he0, if_neg he31, toNat_append_eq_add, toNat_append_eq_add,
    toNat_append_eq_add, toNat_fp16Sign, toNat_fp16Frac, BitVec.toNat_ofNat, Nat.mod_eq_of_lt (by omega)]
  change _ + 0 = _
  ring

theorem fp16ToFp32_fields_of_infinity (he : h.toNat / 2 ^ 10 % 32 = 31) (hf : h.toNat % 2 ^ 10 = 0) :
    FpFields (fp16ToFp32 quiet h) h.msb 255 0 := by
  refine .of_toNat (by decide) (by decide) ?_
  rw [fp16ToFp32, toNat_fp16Exp, he, if_neg (by decide), if_pos rfl, if_pos (fp16Frac_eq_zero_iff.mpr hf),
    toNat_append_eq_add, toNat_append_eq_add, toNat_fp16Sign]
  change (_ * 2 ^ 8 + 255) * 2 ^ 23 + 0 = _
  ring

/-- The fraction of a NaN as the conversion moves it: its top bit kept, or set where it quiets. -/
theorem fp16Frac_quieted (f : BitVec 10) :
    ((if quiet then 1 else f.extractLsb' 9 1 : BitVec 1) ++ f.extractLsb' 0 9).toNat =
      if quiet then f.toNat ||| 2 ^ 9 else f.toNat := by
  have hsplit : f.extractLsb' 9 1 ++ f.extractLsb' 0 9 = f := by
    rw [BitVec.extractLsb'_append_extractLsb'_eq_extractLsb' (show 9 = 0 + 9 from rfl)]
    exact BitVec.extractLsb'_eq_self
  cases quiet with
  | false => exact congrArg BitVec.toNat hsplit
  | true =>
    have htop : ∀ b : BitVec 1, b ||| 1#1 = 1#1 := by decide
    have hor : f ||| (1#1 ++ 0#9) = 1#1 ++ f.extractLsb' 0 9 := by
      conv_lhs => rw [← hsplit]
      rw [BitVec.or_append, htop, BitVec.or_zero]
    exact (congrArg BitVec.toNat hor).symm.trans (BitVec.toNat_or ..)

theorem fp16ToFp32_fields_of_nan (he : h.toNat / 2 ^ 10 % 32 = 31) (hf : h.toNat % 2 ^ 10 ≠ 0) :
    FpFields (fp16ToFp32 quiet h) h.msb 255
      ((if quiet then h.toNat % 2 ^ 10 ||| 2 ^ 9 else h.toNat % 2 ^ 10) * 2 ^ 13) := by
  have hfrac := fp16Frac_quieted quiet (h.extractLsb' 0 10)
  have hlt := hfrac.symm.trans_lt (BitVec.isLt _)
  rw [toNat_fp16Frac] at hfrac hlt
  rw [toNat_append_eq_add] at hfrac
  refine .of_toNat (by decide) (by omega) ?_
  rw [fp16ToFp32, toNat_fp16Exp, he, if_neg (by decide), if_pos rfl, if_neg (mt fp16Frac_eq_zero_iff.mp hf),
    ← hfrac]
  simp only [toNat_append_eq_add, toNat_fp16Sign]
  change (((_ * 2 ^ 8 + 255) * 2 ^ 1 + _) * 2 ^ 9 + _) * 2 ^ 13 + 0 = _
  ring

/-- The value of a denormal: its leading bit, moved to the hidden bit, is what the fraction field leaves out. -/
theorem denormal_units {f : Nat} (hf : f ≠ 0) (hf10 : f < 2 ^ 10) {k : Nat} (hk : k = Nat.log2 f) :
    (2 ^ 23 + f * 2 ^ (23 - k) % 2 ^ 23) * 2 ^ (103 + k - 1) = f * 2 ^ 125 := by
  have hk10 : k < 10 := hk ▸ (Nat.log2_lt hf).mpr hf10
  have hlow : 2 ^ k ≤ f := hk ▸ Nat.log2_self_le hf
  have hhigh : f < 2 ^ (k + 1) := hk ▸ Nat.lt_log2_self
  have hlow' : 2 ^ 23 ≤ f * 2 ^ (23 - k) := calc
    2 ^ 23 = 2 ^ k * 2 ^ (23 - k) := by rw [← pow_add]; congr 1; omega
    _ ≤ f * 2 ^ (23 - k) := Nat.mul_le_mul_right _ hlow
  have hhigh' : f * 2 ^ (23 - k) < 2 ^ 24 := calc
    f * 2 ^ (23 - k) < 2 ^ (k + 1) * 2 ^ (23 - k) := Nat.mul_lt_mul_of_pos_right hhigh (by positivity)
    _ = 2 ^ 24 := by rw [← pow_add]; congr 1; omega
  have hsum : 2 ^ 23 + f * 2 ^ (23 - k) % 2 ^ 23 = f * 2 ^ (23 - k) := by omega
  rw [hsum, mul_assoc, ← pow_add]
  congr 2
  omega

end

/-- Settles O44: the class of the FP16 number decides the fields of the FP32 number, and the fields its value. -/
theorem fp16ConversionExact : Obligations.Fp16ConversionExact := by
  unfold Obligations.Fp16ConversionExact
  refine ⟨fun quiet h n he31 hn => ?finite, fun quiet h x he hx => ?special⟩
  case finite =>
    by_cases he : h.toNat / 2 ^ 10 % 32 = 0
    case neg =>
      rw [if_neg he] at hn
      have hfields := fp16ToFp32_fields_of_normal quiet he he31
      refine ⟨hfields.units_of_normal (by omega) ?_, hfields.sign⟩
      obtain ⟨e, he'⟩ := Nat.exists_eq_succ_of_ne_zero he
      rw [hn, he', Nat.succ_add_sub_one, Nat.succ_sub_one]
      ring
    case pos =>
      rw [if_pos he] at hn
      subst hn
      by_cases hf : h.toNat % 2 ^ 10 = 0
      · have hfields := fp16ToFp32_fields_of_zero quiet he hf
        refine ⟨?_, hfields.sign⟩
        rw [fpUnits, hfields.exp, hf]
        simp
      · have hfields := fp16ToFp32_fields_of_denormal quiet he hf rfl
        exact ⟨hfields.units_of_normal (by omega) (denormal_units hf (Nat.mod_lt _ (by decide)) rfl), hfields.sign⟩
  case special =>
    subst hx
    by_cases hf : h.toNat % 2 ^ 10 = 0
    · have hfields := fp16ToFp32_fields_of_infinity quiet he hf
      refine ⟨hfields.sign, hfields.exp, fun _ => ?_, fun hne => absurd hf hne⟩
      rw [fpInf, hfields.exp, hfields.frac]
      rfl
    · have hfields := fp16ToFp32_fields_of_nan quiet he hf
      refine ⟨hfields.sign, hfields.exp, fun h0 => absurd h0 hf, fun _ => ⟨?_, hfields.frac⟩⟩
      have hfrac : fpFrac (fp16ToFp32 quiet h) ≠ 0 := by
        have hquiet : 0 < h.toNat % 2 ^ 10 ||| 2 ^ 9 := Nat.lt_of_lt_of_le (by decide) Nat.right_le_or
        rw [hfields.frac]
        split <;> omega
      rw [fpNaN, hfields.exp, bne_iff_ne.mpr hfrac]
      rfl

end Sys2Proof.Machine

/-! ## Saturation (46 R351) -/

namespace Sys2Proof.Machine

section
variable {x : Int}

theorem satU32_of_gt (hx : 2 ^ 32 - 1 < x) : satU32 x = 0xFFFFFFFF := if_pos hx

theorem satU32_of_neg (hx : x < 0) : satU32 x = 0 := by
  rw [satU32, if_neg (by omega), if_pos hx]

theorem satU32_of_mem (hlow : 0 ≤ x) (hhigh : x ≤ 2 ^ 32 - 1) : satU32 x = BitVec.ofInt 32 x := by
  rw [satU32, if_neg (by omega), if_neg (by omega)]

theorem satS32_of_gt (hx : 2 ^ 31 - 1 < x) : satS32 x = 0x7FFFFFFF := if_pos hx

theorem satS32_of_lt (hx : x < -2 ^ 31) : satS32 x = 0x80000000 := by
  rw [satS32, if_neg (by omega), if_pos hx]

theorem satS32_of_mem (hlow : -2 ^ 31 ≤ x) (hhigh : x ≤ 2 ^ 31 - 1) : satS32 x = BitVec.ofInt 32 x := by
  rw [satS32, if_neg (by omega), if_neg (by omega)]

/-- Unsigned saturation of a sum that is not negative. -/
theorem satU32_eq_ofInt_min (hx : 0 ≤ x) : satU32 x = BitVec.ofInt 32 (min x (2 ^ 32 - 1)) := by
  rcases le_or_gt x (2 ^ 32 - 1) with h | h
  · rw [satU32_of_mem hx h, min_eq_left h]
  · rw [satU32_of_gt h, min_eq_right h.le]
    rfl

theorem satS32_eq_ofInt_clamp (x : Int) : satS32 x = BitVec.ofInt 32 (max (-2 ^ 31) (min x (2 ^ 31 - 1))) := by
  rcases le_or_gt x (2 ^ 31 - 1) with h | h
  · rw [min_eq_left h]
    rcases le_or_gt (-2 ^ 31) x with h' | h'
    · rw [satS32_of_mem h' h, max_eq_right h']
    · rw [satS32_of_lt h', max_eq_left h'.le]
      rfl
  · rw [satS32_of_gt h, min_eq_right h.le]
    rfl

end

/-- Settles O40: inside the bounds the doubleword holds the sum, and the accumulation saturates only its argument. -/
theorem saturatesFinalSum : Obligations.SaturatesFinalSum := by
  unfold Obligations.SaturatesFinalSum
  refine ⟨fun x => ⟨satU32_of_gt, satU32_of_neg, fun hlow hhigh => ?unsigned⟩,
    fun x => ⟨satS32_of_gt, satS32_of_lt, fun hlow hhigh => ?signed⟩, fun s1 s2 old p => rfl⟩
  case unsigned =>
    rw [satU32_of_mem hlow hhigh, BitVec.toNat_ofInt]
    omega
  case signed =>
    rw [satS32_of_mem hlow hhigh, BitVec.toInt_ofInt_eq_self (by decide) hlow (Int.lt_of_le_sub_one hhigh)]

end Sys2Proof.Machine

/-! ## The dot products (46 R350, R353 to R366) -/

namespace Sys2Proof.Machine

/-- A sum of products of unsigned elements is not negative, so only the upper bound of `sat_u32` can be passed. -/
theorem unsignedDot_nonneg {w : Nat} (a b : Nat → BitVec w) (n : Nat) :
    0 ≤ ((List.range n).map fun k => Sign.unsigned.ext (a k) * Sign.unsigned.ext (b k)).sum := by
  refine List.sum_nonneg fun p hp => ?_
  obtain ⟨k, -, rfl⟩ := List.mem_map.mp hp
  exact mul_nonneg (Int.natCast_nonneg _) (Int.natCast_nonneg _)

/-- The model's accumulation of the exact sum is the value of the rules. -/
theorem dotAccumulate_sum_eq_dotValue {w : Nat} (s1 s2 : Sign) (sat : Bool) (old : DWord) (a b : Nat → BitVec w)
    (n : Nat) :
    dotAccumulate s1 s2 sat old ((List.range n).map fun k => s1.ext (a k) * s2.ext (b k)).sum =
      dotValue s1 s2 sat old a b n := by
  cases sat with
  | false =>
    change old + BitVec.ofInt 32 _ = BitVec.ofInt 32 (old.toNat + _)
    rw [BitVec.ofInt_add, BitVec.ofInt_natCast, BitVec.ofNat_toNat, BitVec.setWidth_eq]
  | true =>
    by_cases hunsigned : s1 = .unsigned ∧ s2 = .unsigned
    · obtain ⟨rfl, rfl⟩ := hunsigned
      exact satU32_eq_ofInt_min (add_nonneg (Int.natCast_nonneg _) (unsignedDot_nonneg a b n))
    · simp only [dotAccumulate, dotValue, if_true, if_neg hunsigned]
      exact satS32_eq_ofInt_clamp _

/-- An element of the model's dot product is the value of the rules. -/
theorem dotDword_eq_dotValue (w : Nat) (s1 s2 : Sign) (sat : Bool) (d a b : Vec) (j : Nat) :
    dotDword w s1 s2 sat d a b j = dotValue s1 s2 sat (dword d j) (fun k => elem w a (32 / w * j + k))
      (fun k => elem w b (32 / w * j + k)) (32 / w) :=
  dotAccumulate_sum_eq_dotValue ..

/-- The bytes of the doublewords of a 128-bit or 256-bit vector. -/
theorem dwords_bytes (wide : Bool) : 4 * (if wide then 8 else 4) = if wide then 32 else 16 := by cases wide <;> rfl

/-- A dot product of elements of `w` bits, 256-bit if `wide`, that is enabled and whose source is readable completes. -/
theorem dotProduct_completes {s : State} {w : Nat} {wide : Bool} {b : RM} {v : Vec}
    (hready : vexReady s [if w = 8 then .vnniInt8 else .vnniInt16])
    (hv : rmSource s b (if wide then 32 else 16) = .ok v) (s1 s2 : Sign) (sat : Bool) (d a : RegNum) :
    ∃ t, dotProduct s w (if wide then 8 else 4) s1 s2 sat d a b = .next t ∧
      packsInto s t d (if wide then 8 else 4) fun j => dotValue s1 s2 sat (dword (s.vreg d) j)
        (fun k => elem w (s.vreg a) (32 / w * j + k)) (fun k => elem w v (32 / w * j + k)) (32 / w) := by
  refine ⟨_, vexOp_completes (vexCheck_of_ready hready) ((dwords_bytes wide).symm ▸ hv), ?_⟩
  rw [← funext (dotDword_eq_dotValue w s1 s2 sat (s.vreg d) (s.vreg a) v)]
  exact packsInto_setVreg_retire (dwords_bits_le wide) s d _

/-- Settles O37: each of the twelve is the dot product of bytes with its signs and its saturation. -/
theorem dotProductBytes : Obligations.DotProductBytes := by
  unfold Obligations.DotProductBytes
  intro s1 s2 sat i128 i256 hi d a b v s wide hready hv
  have hexec : exec ((if wide then i256 else i128) d a b) s =
      dotProduct s 8 (if wide then 8 else 4) s1 s2 sat d a b := by
    fin_cases hi <;> cases wide <;> rfl
  rw [hexec, ← dwords_bits]
  exact dotProduct_completes (w := 8) hready hv s1 s2 sat d a

/-- Settles O38: each of the twelve is the dot product of words with its signs and its saturation. -/
theorem dotProductWords : Obligations.DotProductWords := by
  unfold Obligations.DotProductWords
  intro s1 s2 sat i128 i256 hi d a b v s wide hready hv
  have hexec : exec ((if wide then i256 else i128) d a b) s =
      dotProduct s 16 (if wide then 8 else 4) s1 s2 sat d a b := by
    fin_cases hi <;> cases wide <;> rfl
  rw [hexec, ← dwords_bits]
  exact dotProduct_completes (w := 16) hready hv s1 s2 sat d a

end Sys2Proof.Machine

/-! ## The 52-bit multiply-accumulates (46 R350, R367 to R369) -/

namespace Sys2Proof.Machine

/-- A qword gains the high or low 52 bits of the product, modulo 2^64. The low 52 bits of the product
do not depend on the upper bits of its factors. -/
theorem toNat_madd52Qword (high : Bool) (d a b : Vec) (j : Nat) :
    (madd52Qword high d a b j).toNat = ((qword d j).toNat +
      (if high then (qword a j).toNat % 2 ^ 52 * ((qword b j).toNat % 2 ^ 52) / 2 ^ 52
       else (qword a j).toNat * (qword b j).toNat % 2 ^ 52)) % 2 ^ 64 := by
  rw [madd52Qword, BitVec.toNat_add, BitVec.toNat_ofNat, Nat.add_mod_mod, low52, low52, ← Nat.mul_mod]

/-- A multiply-accumulate, 256-bit if `wide`, that is enabled and whose source is readable completes. -/
theorem madd52_completes {s : State} {wide : Bool} {b : RM} {v : Vec} (hready : vexReady s [.avxIfma])
    (hv : rmSource s b (if wide then 32 else 16) = .ok v) (high : Bool) (d a : RegNum) :
    ∃ t, madd52 s high (if wide then 4 else 2) d a b = .next t ∧
      packsInto s t d (if wide then 4 else 2) (madd52Qword high (s.vreg d) (s.vreg a) v) := by
  have hbytes : 8 * (if wide then 4 else 2) = if wide then 32 else 16 := by cases wide <;> rfl
  have hbits : 64 * (if wide then 4 else 2) ≤ 512 := by cases wide <;> decide
  exact ⟨_, vexOp_completes (vexCheck_of_ready hready) (hbytes ▸ hv), packsInto_setVreg_retire hbits s d _⟩

/-- Settles O39: each of the four is one multiply-accumulate, and each of its qwords is the sum of the rules. -/
theorem multiplyAdd52 : Obligations.MultiplyAdd52 := by
  unfold Obligations.MultiplyAdd52
  intro d a b v s wide high hready hv
  have hexec : exec ((if wide then (if high then Instr.vpmadd52huq256 else .vpmadd52luq256)
      else (if high then .vpmadd52huq128 else .vpmadd52luq128)) d a b) s =
      madd52 s high (if wide then 4 else 2) d a b := by
    cases wide <;> cases high <;> rfl
  have hbits : 64 * (if wide then 4 else 2) = if wide then 256 else 128 := by cases wide <;> rfl
  obtain ⟨t, ht, hqword, habove, hframe⟩ := madd52_completes hready hv high d a
  refine ⟨t, hexec.trans ht, fun j hj => ?_, hbits ▸ habove, hframe⟩
  rw [qword, hqword j hj, toNat_madd52Qword]

end Sys2Proof.Machine

/-! ## Disabled vector and tile instructions (60 R486, 48 R413) -/

namespace Sys2Proof.Machine

section
variable {s : State} {fs : List Feature}

/-- Without the XSAVE enables a vector instruction stops at its first check. -/
theorem vexCheck_of_avx_disabled (h : s.avxEnabled = false) : vexCheck s fs = .error ud :=
  need_bind_of_false (by rw [h, Bool.and_false, Bool.false_and, Bool.false_and]) ..

/-- With the enables on, CR0.TS stops a vector instruction of 64-bit mode at its second check. -/
theorem vexCheck_of_taskSwitched (havx : s.avxEnabled = true) (hfs : ∀ f ∈ fs, enumerated s f = true)
    (h64 : s.in64 = true) (hts : s.taskSwitched = true) : vexCheck s fs = .error (.exc .nm 0) := by
  have hmode : s.mode = .long64 := by simpa [State.in64] using h64
  have henum : fs.all (enumerated s) = true := List.all_eq_true.mpr hfs
  rw [vexCheck, henum, havx, hmode, hts]
  rfl

/-- With no tiles configured a tile multiplication raises #UD, if not for its other enables. -/
theorem amxCheck_of_not_configured (h : s.tilesConfigured = false) (f : Feature) (d a b : RegNum) :
    amxCheck s f d a b = .error ud := by
  rw [amxCheck, h]
  cases s.in64 && enumerated s f && s.avxEnabled && s.xcr0.getLsbD 17 && s.xcr0.getLsbD 18 <;> rfl

theorem amxMultiply_of_not_configured (h : s.tilesConfigured = false) (f : Feature) (op : AmxOp) (d a b : RegNum) :
    amxMultiply s f op d a b = .fault (.exception .ud 0 s.rip s) :=
  settle_bind_of_error (amxCheck_of_not_configured h f d a b) _

end

/-- Settles O18: the three run one multiplication, which refuses tiles that are not configured. -/
theorem unconfiguredTilesRefused : Obligations.UnconfiguredTilesRefused := by
  unfold Obligations.UnconfiguredTilesRefused
  intro i d a b s hi
  refine ⟨by rw [State.tilesConfigured, bne_iff_ne], fun h => ?_⟩
  simp only [List.mem_cons, List.not_mem_nil, or_false] at hi
  obtain rfl | rfl | rfl := hi
  · exact amxMultiply_of_not_configured h .amxFp16 .dot d a b
  · exact amxMultiply_of_not_configured h .amxComplex .imaginary d a b
  · exact amxMultiply_of_not_configured h .amxComplex .real d a b

/-- The meaning of `i` in `s` is a sequence that starts with the checks of a vector instruction, and its features are AVX
and `f`. -/
def startsWithVexCheck (s : State) (i : Instr) (f : Feature) : Prop :=
  ∃ fs k, exec i s = settle s (vexCheck s fs >>= k) ∧ ∀ g ∈ fs, g = .avx ∨ g = f

section
variable {s : State} {i : Instr} {f : Feature}

theorem startsWithVexCheck.of_one {k : Unit → Except Stop State}
    (h : exec i s = settle s (vexCheck s [f] >>= k)) : startsWithVexCheck s i f :=
  ⟨[f], k, h, fun _ hg => .inr (List.mem_singleton.mp hg)⟩

theorem startsWithVexCheck.of_avx {k : Unit → Except Stop State}
    (h : exec i s = settle s (vexCheck s [.avx, f] >>= k)) : startsWithVexCheck s i f :=
  ⟨[.avx, f], k, h, by simp⟩

end

/-- Settles O17: each of the instructions starts with the checks of a vector instruction, which stop it. -/
theorem vectorDisabled : Obligations.VectorDisabled := by
  unfold Obligations.VectorDisabled
  intro i f d a r b m imm s hi
  have hshape : startsWithVexCheck s i f := by
    fin_cases hi
    -- The last ten alone, of SHA512, SM3 and SM4, check AVX too.
    iterate 42 exact .of_one rfl
    all_goals exact .of_avx rfl
  obtain ⟨fs, k, hexec, hfs⟩ := hshape
  refine ⟨fun havx => ?disabled, fun havx hAvx hf h64 hts => ?switched⟩
  case disabled => exact hexec.trans (settle_bind_of_error (vexCheck_of_avx_disabled havx) k)
  case switched =>
    have henum : ∀ g ∈ fs, enumerated s g = true := fun g hg => by
      obtain rfl | rfl := hfs g hg
      · exact hAvx
      · exact hf
    exact hexec.trans (settle_bind_of_error (vexCheck_of_taskSwitched havx henum h64 hts) k)

end Sys2Proof.Machine

/-! ## UIRET (49 R460 to R464, 60 R557) -/

namespace Sys2Proof.Machine

/-! ### Values stored one after the other -/

section
variable {α : Type} [DecidableEq α] {d : α} {key : Nat → Nat} {value : Nat → α} {l : List Nat} {m : Store α}

/-- A key that none of the stores names keeps its value. -/
theorem Store.get_foldl_set_other {a : Nat} (h : ∀ x ∈ l, key x ≠ a) :
    Store.get d a (l.foldl (fun m x => Store.set d (key x) (value x) m) m) = Store.get d a m := by
  induction l generalizing m with
  | nil => rfl
  | cons y l ih =>
    rw [List.foldl_cons, ih fun x hx => h x (List.mem_cons_of_mem _ hx),
      Store.get_set_other (h y List.mem_cons_self).symm]

/-- Where no two of the stores name one key, each key holds its value. -/
theorem Store.get_foldl_set_mem (hm : Store.wf d m = true) (hl : l.Nodup) (hkey : Function.Injective key) {x : Nat}
    (hx : x ∈ l) : Store.get d (key x) (l.foldl (fun m x => Store.set d (key x) (value x) m) m) = value x := by
  induction l generalizing m with
  | nil => exact absurd hx List.not_mem_nil
  | cons y l ih =>
    obtain ⟨hy, hl⟩ := List.nodup_cons.mp hl
    rw [List.foldl_cons]
    obtain rfl | hx := List.mem_cons.mp hx
    · rw [Store.get_foldl_set_other fun z hz he => hy (by rwa [← hkey he]), Store.get_set_same hm]
    · exact ih (Store.wf_set hm) hl hx

end

/-! ### Branch records (60 R557) -/

section
variable {s t : State}

theorem lbrDepth_le (s : State) : lbrDepth s ≤ 32 := by
  have h := List.countP_le_length (l := List.range 32)
    (p := fun x => s.platform.msrSet.any fun d => d.addr == 0x1200 + x)
  rwa [List.length_range] at h

theorem lbrDepth_pos (h : lbrRecords s = true) : 0 < lbrDepth s := by
  simp only [lbrRecords, Bool.and_eq_true, decide_eq_true_eq] at h
  exact h.2

/-- The records after they have moved up by one, record 0 still in its place. -/
def lbrMoved (s : State) : Store QWord :=
  (List.range (lbrDepth s - 1)).foldl
    (fun m x => Store.set 0 (0x1201 + x) (Store.get 0 (0x1200 + x) s.msrs) m) s.msrs

theorem lbrPush_of_off (h : lbrRecords s = false) : lbrPush s = s := if_neg (ne_true_of_eq_false h)

theorem lbrPush_of_on (h : lbrRecords s = true) :
    lbrPush s = { s.drew with msrs := Store.set 0 0x1200 (lbrOtherBranch s.draws) (lbrMoved s) } := if_pos h

/-- Recording a branch touches the MSRs and the count of drawn values alone. -/
theorem lbrPush_frame (s : State) : lbrPush s = { s with msrs := (lbrPush s).msrs, draws := (lbrPush s).draws } := by
  unfold lbrPush
  split <;> rfl

/-- Of the MSRs, recording a branch touches only the records. -/
theorem get_lbrPush_other {a : Nat} (ha : a < 0x1200 ∨ 0x1200 + lbrDepth s ≤ a) :
    Store.get 0 a (lbrPush s).msrs = Store.get 0 a s.msrs := by
  cases h : lbrRecords s with
  | false => rw [lbrPush_of_off h]
  | true =>
    have hpos := lbrDepth_pos h
    rw [lbrPush_of_on h]
    refine (Store.get_set_other (by omega)).trans (Store.get_foldl_set_other fun x hx => ?_)
    have hlt := List.mem_range.mp hx
    omega

/-- Each record but the first is the one below it. -/
theorem get_lbrPush_succ (h : lbrRecords s = true) (hwf : Store.wf 0 s.msrs = true) {x : Nat}
    (hx : x < lbrDepth s - 1) :
    Store.get 0 (0x1201 + x) (lbrPush s).msrs = Store.get 0 (0x1200 + x) s.msrs := by
  rw [lbrPush_of_on h]
  exact (Store.get_set_other (by omega)).trans
    (Store.get_foldl_set_mem hwf List.nodup_range (fun _ _ he => Nat.add_left_cancel he) (List.mem_range.mpr hx))

/-- The new record has branch type 1xxxb. -/
theorem get_lbrPush_zero (h : lbrRecords s = true) (hwf : Store.wf 0 s.msrs = true) :
    (Store.get 0 0x1200 (lbrPush s).msrs).getLsbD 59 = true := by
  have hmoved : Store.wf 0 (lbrMoved s) = true := Store.wf_foldl_set _ _ _ hwf
  rw [lbrPush_of_on h]
  change (Store.get 0 0x1200 (Store.set 0 0x1200 (lbrOtherBranch s.draws) (lbrMoved s))).getLsbD 59 = true
  rw [Store.get_set_same hmoved, lbrOtherBranch, BitVec.getLsbD_or, BitVec.getLsbD_twoPow]
  exact Bool.or_true _

/-- Recording a branch changes no feature flag. -/
theorem enumerated_lbrPush (s : State) (f : Feature) : enumerated (lbrPush s) f = enumerated s f := by
  have hmonitor : monitorEnabled (lbrPush s) = monitorEnabled s := by
    rw [monitorEnabled, get_lbrPush_other (.inl (by decide)), monitorEnabled]
  rw [enumerated, cpuidQuery_congr (lbrPush_platform s) (lbrPush_cr4 s) (lbrPush_xcr0 s) hmonitor, enumerated]

/-! ### What UIRET does -/

/-- UIRET completes exactly when user interrupts are enabled and its frame is readable with a canonical RIP: the branch is
recorded, then the frame loaded. -/
theorem exec_uiret_eq_next : exec .uiret s = .next t ↔
    (s.in64 = true ∧ s.cr4.getLsbD 25 = true ∧ enumerated s .uintr = true) ∧
      ∃ newRip image newRsp, uiretPop s 0 = .ok newRip ∧ uiretPop s 1 = .ok image ∧ uiretPop s 2 = .ok newRsp ∧
        s.canonical newRip = true ∧ t = (uiretEffect image newRsp (lbrPush s)).retireTo newRip := by
  change execUiret s = .next t ↔ _
  unfold execUiret
  simp only
  split
  next _ _ _ hframe =>
    simp only [bind_eq_ok, need_eq_ok, pure_eq_ok, Prod.mk.injEq, Bool.and_eq_true] at hframe
    obtain ⟨-, ⟨⟨h64, hcr4⟩, henum⟩, newRip, h0, image, h1, newRsp, h2, -, hcanon, rfl, rfl, rfl⟩ := hframe
    constructor
    · intro h
      cases h
      exact ⟨⟨h64, hcr4, henum⟩, newRip, image, newRsp, h0, h1, h2, hcanon, rfl⟩
    · rintro ⟨-, _, _, _, h0', h1', h2', -, rfl⟩
      cases h0.symm.trans h0'
      cases h1.symm.trans h1'
      cases h2.symm.trans h2'
      rfl
  next x hstop =>
    refine ⟨fun h => absurd h (raise_ne_next x s t), ?_⟩
    rintro ⟨⟨h64, hcr4, henum⟩, newRip, image, newRsp, h0, h1, h2, hcanon, -⟩
    rw [h64, hcr4, henum, h0, h1, h2] at hstop
    simp [bind, Except.bind, hcanon, pure, Except.pure] at hstop

end

/-- Settles O52: bit by bit, the flags after UIRET are the frame's where the mask is set, else the old ones. -/
theorem uiretFlagBits : Obligations.UiretFlagBits := by
  unfold Obligations.UiretFlagBits
  intro s t h
  obtain ⟨-, newRip, image, newRsp, -, himage, -, -, rfl⟩ := exec_uiret_eq_next.mp h
  refine ⟨image, himage, fun n hn => ?_⟩
  have hmask : ∀ n < 64, uiretMask.getLsbD n = decide (n ∈ [0, 2, 4, 6, 7, 8, 10, 11, 14, 16, 18, 21]) := by decide
  change (uiretFlags (lbrPush s).rflags image).getLsbD n = _
  rw [lbrPush_rflags, uiretFlags, BitVec.getLsbD_or, BitVec.getLsbD_and, BitVec.getLsbD_and, BitVec.getLsbD_not,
    decide_eq_true hn, hmask n hn]
  split
  next hmem => simp [hmem]
  next hmem => simp [hmem]

/-- Settles O53: UIF after UIRET is a bit of the frame, or 1, as the feature flag says, which the branch record leaves
alone. -/
theorem flexibleUif : Obligations.FlexibleUif := by
  unfold Obligations.FlexibleUif
  intro s t h
  obtain ⟨-, newRip, image, newRsp, -, himage, -, -, rfl⟩ := exec_uiret_eq_next.mp h
  have huif : ((uiretEffect image newRsp (lbrPush s)).retireTo newRip).uif =
      if enumerated s .uiretUif then image.getLsbD 1 else true := by
    rw [← enumerated_lbrPush]
    rfl
  rw [huif]
  refine ⟨image, himage, fun hplain => by rw [if_neg (ne_true_of_eq_false hplain)], fun hflex => by rw [if_pos hflex],
    fun hbit => by rw [hbit, ite_self]⟩

/-- Settles O51: the state in which UIRET completes, read component by component; the records are those of one push. -/
theorem uiretResult : Obligations.UiretResult := by
  unfold Obligations.UiretResult
  intro s newRip image newRsp h64 hcr4 henum h0 h1 h2 hcanon
  refine ⟨_, exec_uiret_eq_next.mpr ⟨⟨h64, hcr4, henum⟩, newRip, image, newRsp, h0, h1, h2, hcanon, rfl⟩, rfl, rfl,
    State.reg_setReg_same .., fun r hr => ?regs, ?flags, ?uif, rfl, ?vregs, fun pa => ?mem, ?rao, ?fixed,
    fun hoff => ?off, fun hon hstores => ?on, ?rest⟩
  case regs =>
    refine (State.reg_setReg_other _ _ (List.ne_of_not_mem_cons hr)).trans ?_
    rw [lbrPush_frame]
    rfl
  case flags => rw [lbrPush_frame]; rfl
  case uif => rw [← enumerated_lbrPush]; rfl
  case vregs => rw [lbrPush_frame]; rfl
  case mem => rw [lbrPush_frame]; rfl
  case rao => rw [lbrPush_frame]; rfl
  case fixed => rw [lbrPush_frame]; rfl
  case off => rw [lbrPush_of_off hoff]; exact ⟨rfl, rfl⟩
  case on =>
    obtain ⟨-, hmsrs, -, -⟩ := storesWf_iff.mp hstores
    refine ⟨get_lbrPush_zero hon hmsrs, fun x hx hlt => ?_, fun a ha => get_lbrPush_other ha⟩
    obtain ⟨y, rfl⟩ := Nat.exists_eq_add_of_le' hx
    have hy := get_lbrPush_succ hon hmsrs (x := y) (by omega)
    rwa [show 0x1201 + y = 0x1200 + (y + 1) by omega] at hy
  case rest => rw [lbrPush_frame]; rfl

end Sys2Proof.Machine

/-! ## Exceptions, and what CPL above 0 may change (60 R483, R501) -/

namespace Sys2Proof.Machine

section
variable {i : Instr} {s t : State}

/-! ### Exceptions (60 R483) -/

/-- UIRET that raises an exception leaves the state as it was, but for CR2. -/
theorem execUiret_exception {e : Exc} {code : DWord} {rip : QWord}
    (h : execUiret s = .fault (.exception e code rip t)) : rip = s.rip ∧ { t with cr2 := s.cr2 } = s := by
  unfold execUiret at h
  simp only at h
  split at h
  next => cases h
  next => exact raise_exception h

/-- Every instruction but the two lists settles its checks and effect, UIRET and the hints apart. -/
theorem exec_exception {e : Exc} {code : DWord} {rip : QWord} (h : exec i s = .fault (.exception e code rip t))
    (hrd : i ≠ .rdmsrlist) (hwr : i ≠ .wrmsrlist) : rip = s.rip ∧ { t with cr2 := s.cr2 } = s := by
  cases i with
  | rdmsrlist => exact absurd rfl hrd
  | wrmsrlist => exact absurd rfl hwr
  | uiret => exact execUiret_exception h
  | prefetchnta | prefetcht0 | prefetcht1 | prefetcht2 | prefetchit1 | prefetchit0 => exact absurd h next_ne_fault
  | _ => exact settle_exception h

/-! ### CPL above 0 (60 R501) -/

/-- The instructions that may change an MSR, a timer, a key table or the activity; UIRET moves the branch records alone. -/
def writesPrivileged (i : Instr) : Prop := i = .mwait ∨ i = .rdmsrlist ∨ i = .pconfig ∨ writesMsr i

/-- What CPL above 0 may not change, the MSR store apart. -/
def privilegedState (s : State) :=
  (s.tsc, s.userTimer, s.uirr, s.guestTimer, s.tmeKeys, s.tseKeys, s.activity)

theorem InstrUpdate.privilegedState_eq (hi : ¬ writesPrivileged i) (h : InstrUpdate i s t) :
    privilegedState t = privilegedState s := by
  cases h with
  | work h => rw [h]; rfl
  | wait hw => exact absurd (.inl hw) hi
  | sampleTsc hw => exact absurd (.inr (.inl hw)) hi
  | tmeKey hw | tseKey hw => exact absurd (.inr (.inr (.inl hw))) hi
  | msr hw => exact absurd (.inr (.inr (.inr hw))) hi
  | drain => rw [raoDrain_frame]; rfl
  | branchRecord => rw [lbrPush_frame]; rfl
  | flags | store => rfl

theorem InstrUpdate.msrs_eq (hi : ¬ writesPrivileged i) (hu : i ≠ .uiret) (h : InstrUpdate i s t) :
    t.msrs = s.msrs := by
  cases h with
  | work h => rw [h]
  | msr hw => exact absurd (.inr (.inr (.inr hw))) hi
  | drain => rw [raoDrain_frame]
  | branchRecord hw => exact absurd hw hu
  | flags | store | wait | sampleTsc | tmeKey | tseKey => rfl

/-- The lists check CPL before their first entry. -/
theorem cpl_of_msrListCheck (h : msrListCheck s = .ok ()) : s.cpl = 0 := by
  simp only [msrListCheck, bind_eq_ok, need_eq_ok, decide_eq_true_eq] at h
  obtain ⟨-, -, -, hcpl, -⟩ := h
  exact hcpl

theorem exec_rdmsrlist_ne_next (hcpl : s.cpl ≠ 0) : exec .rdmsrlist s ≠ .next t := by
  cases hcheck : msrListCheck s with
  | ok => exact absurd (cpl_of_msrListCheck hcheck) hcpl
  | error x => rw [exec_rdmsrlist_of_check hcheck]; exact raise_ne_next x s t

theorem exec_wrmsrlist_ne_next (hcpl : s.cpl ≠ 0) : exec .wrmsrlist s ≠ .next t := by
  cases hcheck : msrListCheck s with
  | ok => exact absurd (cpl_of_msrListCheck hcheck) hcpl
  | error x => rw [exec_wrmsrlist_of_check hcheck]; exact raise_ne_next x s t

theorem exec_wrmsrns_ne_next (hcpl : s.cpl ≠ 0) (hmode : s.mode ≠ .real) : exec .wrmsrns s ≠ .next t := by
  intro h
  obtain ⟨u, hu, -⟩ := settle_eq_next.mp h
  simp only [bind_eq_ok, need_eq_ok, Bool.or_eq_true, decide_eq_true_eq] at hu
  obtain ⟨-, -, -, hchecked, -⟩ := hu
  exact hchecked.elim hcpl hmode

/-- At a CPL other than 0, outside real-address mode, of the instructions that write privileged state only UWRMSR
completes. -/
theorem not_writesPrivileged_of_exec (h : exec i s = .next t) (hcpl : s.cpl ≠ 0) (hmode : s.mode ≠ .real)
    (hi : ¬ isUwrmsr i) : ¬ writesPrivileged i := by
  rintro (rfl | rfl | rfl | rfl | rfl | huwrmsr)
  · rw [exec_mwait_of_cpl hcpl] at h
    exact raise_ne_next ud s t h
  · exact exec_rdmsrlist_ne_next hcpl h
  · rw [exec_pconfig_of_cpl hcpl] at h
    exact raise_ne_next ud s t h
  · exact exec_wrmsrns_ne_next hcpl hmode h
  · exact exec_wrmsrlist_ne_next hcpl h
  · exact hi huwrmsr

/-- UIRET changes no MSR but the branch records, and those only where they are on. -/
theorem exec_uiret_msrs (h : exec .uiret s = .next t) : t.msrs = (lbrPush s).msrs := by
  obtain ⟨-, newRip, image, newRsp, -, -, -, -, rfl⟩ := exec_uiret_eq_next.mp h
  rfl

end

/-- Settles O14: every other instruction stops in the state it began in. -/
theorem exceptionLeavesState : Obligations.ExceptionLeavesState := by
  unfold Obligations.ExceptionLeavesState
  intro i s t e code rip
  exact exec_exception

/-- Settles O13: the instructions whose updates reach privileged state do not complete; UIRET's reach the branch records
alone. -/
theorem privilegedStateKept : Obligations.PrivilegedStateKept := by
  unfold Obligations.PrivilegedStateKept
  intro i s t h hcpl hmode huwrmsr
  have hi := not_writesPrivileged_of_exec h hcpl hmode huwrmsr
  have hstate : privilegedState t = privilegedState s :=
    (exec_updates h).keeps fun _ _ => InstrUpdate.privilegedState_eq hi
  obtain ⟨hstore, hother⟩ : (¬ (i = .uiret ∧ lbrRecords s = true) → t.msrs = s.msrs) ∧
      ∀ a, a < 0x1200 ∨ 0x1220 ≤ a → Store.get 0 a t.msrs = Store.get 0 a s.msrs := by
    by_cases hu : i = .uiret
    case pos =>
      subst hu
      have hdepth := lbrDepth_le s
      rw [exec_uiret_msrs h]
      exact ⟨fun hoff => by rw [lbrPush_of_off (by simpa using hoff)], fun a ha => get_lbrPush_other (by omega)⟩
    case neg =>
      have hkept := (exec_updates h).keeps fun _ _ => InstrUpdate.msrs_eq hi hu
      exact ⟨fun _ => hkept, fun a _ => by rw [hkept]⟩
  refine ⟨hstore, hother, ?_⟩
  simpa only [privilegedState, Prod.mk.injEq] using hstate

end Sys2Proof.Machine

/-! ## SHA512 (47 R380 to R384) -/

namespace Sys2Proof.Machine

/-! ### Vectors of four elements, and the instructions that write one -/

section
variable {w : Nat}

/-- The elements of a vector made of a list. -/
theorem elem_ofElems {l : List (BitVec w)} {j : Nat} (hj : j < l.length) (hw : w * l.length ≤ 512) :
    elem w (ofElems l) j = l.getD j 0 := elem_pack _ hj hw

variable (e0 e1 e2 e3 : BitVec w)

/-- The elements of a vector made of four. -/
theorem elem_ofElems_four (hw : w * 4 ≤ 512) :
    elem w (ofElems [e0, e1, e2, e3]) 0 = e0 ∧ elem w (ofElems [e0, e1, e2, e3]) 1 = e1 ∧
      elem w (ofElems [e0, e1, e2, e3]) 2 = e2 ∧ elem w (ofElems [e0, e1, e2, e3]) 3 = e3 :=
  ⟨elem_ofElems (by simp) hw, elem_ofElems (by simp) hw, elem_ofElems (by simp) hw, elem_ofElems (by simp) hw⟩

theorem ofElems_four_high {k : Nat} (hk : k ≥ w * 4) : (ofElems [e0, e1, e2, e3]).getLsbD k = false :=
  pack_high _ hk

end

section
variable {s : State} {fs : List Feature} {d : RegNum}

/-- A vector instruction on registers only, that is enabled, writes its result and nothing else. -/
theorem vexRegOp_writes (hready : vexReady s fs) (v : Vec) :
    ∃ t, vexRegOp s fs d v = .next t ∧ t.vreg d = v ∧ onlyVreg s t d := by
  refine ⟨(s.setVreg d v).retire, ?_, State.vreg_setVreg_same s d v, onlyVreg_setVreg_retire s d v⟩
  rw [vexRegOp, vexCheck_of_ready hready]
  rfl

/-- A vector instruction that is enabled and whose source is readable writes its result and nothing else. -/
theorem vexOp_writes {o : RM} {n : Nat} {v : Vec} (hready : vexReady s fs) (hv : rmSource s o n = .ok v)
    (f : Vec → Vec) : ∃ t, vexOp s fs d o n f = .next t ∧ t.vreg d = f v ∧ onlyVreg s t d :=
  ⟨_, vexOp_completes (vexCheck_of_ready hready) hv, State.vreg_setVreg_same s d _, onlyVreg_setVreg_retire s d _⟩

end

/-! ### The results -/

/-- Each qword of VSHA512MSG1 gains `s0` of the next one (47 R382). -/
theorem qword_sha512Msg1 (d b : Vec) {j : Nat} (hj : j < 4) :
    qword (sha512Msg1 d b) j = qword d j + sha512s0 (if j = 3 then qword b 0 else qword d (j + 1)) := by
  obtain ⟨h0, h1, h2, h3⟩ := elem_ofElems_four (qword d 0 + sha512s0 (qword d 1)) (qword d 1 + sha512s0 (qword d 2))
    (qword d 2 + sha512s0 (qword d 3)) (qword d 3 + sha512s0 (qword b 0)) (by decide)
  interval_cases j
  · exact h0
  · exact h1
  · exact h2
  · exact h3

/-- Each qword of VSHA512MSG2 gains `s1` of the one two before it, a new one for the last two (47 R383). -/
theorem qword_sha512Msg2 (d b : Vec) {j : Nat} (hj : j < 4) :
    qword (sha512Msg2 d b) j =
      qword d j + sha512s1 (if j < 2 then qword b (j + 2) else qword (sha512Msg2 d b) (j - 2)) := by
  obtain ⟨h0, h1, h2, h3⟩ := elem_ofElems_four (qword d 0 + sha512s1 (qword b 2)) (qword d 1 + sha512s1 (qword b 3))
    (qword d 2 + sha512s1 (qword d 0 + sha512s1 (qword b 2)))
    (qword d 3 + sha512s1 (qword d 1 + sha512s1 (qword b 3))) (by decide)
  interval_cases j
  · exact h0
  · exact h1
  · exact h2.trans (congrArg (fun x => qword d 2 + sha512s1 x) h0.symm)
  · exact h3.trans (congrArg (fun x => qword d 3 + sha512s1 x) h1.symm)

/-- The working variables before round 0, round 1, ... with the words `w` (47 R384). -/
def sha512States (x : Sha512) (w : Nat → QWord) : Nat → Sha512
  | 0 => x
  | i + 1 => sha512Round (sha512States x w i) (w i)

/-- The working variables that VSHA512RNDS2 starts from (47 R384). -/
def sha512Start (d a : Vec) : Sha512 :=
  ⟨qword a 3, qword a 2, qword d 3, qword d 2, qword a 1, qword a 0, qword d 1, qword d 0⟩

/-- VSHA512RNDS2 keeps four of the working variables after two rounds. -/
theorem qword_sha512Rounds (d a b : Vec) :
    qword (sha512Rounds d a b) 0 = (sha512States (sha512Start d a) (qword b) 2).f ∧
      qword (sha512Rounds d a b) 1 = (sha512States (sha512Start d a) (qword b) 2).e ∧
      qword (sha512Rounds d a b) 2 = (sha512States (sha512Start d a) (qword b) 2).b ∧
      qword (sha512Rounds d a b) 3 = (sha512States (sha512Start d a) (qword b) 2).a :=
  elem_ofElems_four _ _ _ _ (by decide)

/-- Settles O45: each instruction writes its result alone, whose qwords satisfy the equations; the two rounds are two steps
of the working variables. -/
theorem sha512Result : Obligations.Sha512Result := by
  unfold Obligations.Sha512Result
  intro d a b s hready
  refine ⟨?msg1, ?msg2, ?rounds⟩
  case msg1 =>
    obtain ⟨t, ht, hv, hframe⟩ := vexRegOp_writes (d := d) hready (sha512Msg1 (s.vreg d) (s.vreg b))
    refine ⟨t, ht, fun j hj x hx => ?_, fun k hk => ?_, hframe⟩
    · rw [hv, qword_sha512Msg1 _ _ hj, ← hx]
      rfl
    · rw [hv]
      exact ofElems_four_high _ _ _ _ hk
  case msg2 =>
    obtain ⟨t, ht, hv, hframe⟩ := vexRegOp_writes (d := d) hready (sha512Msg2 (s.vreg d) (s.vreg b))
    refine ⟨t, ht, fun j hj x hx => ?_, fun k hk => ?_, hframe⟩
    · rw [hv] at hx ⊢
      rw [qword_sha512Msg2 _ _ hj, ← hx]
      rfl
    · rw [hv]
      exact ofElems_four_high _ _ _ _ hk
  case rounds =>
    let y := sha512States (sha512Start (s.vreg d) (s.vreg a)) (qword (s.vreg b))
    obtain ⟨t, ht, hv, hframe⟩ := vexRegOp_writes (d := d) hready (sha512Rounds (s.vreg d) (s.vreg a) (s.vreg b))
    obtain ⟨h0, h1, h2, h3⟩ := qword_sha512Rounds (s.vreg d) (s.vreg a) (s.vreg b)
    refine ⟨t, fun i => (y i).a, fun i => (y i).b, fun i => (y i).c, fun i => (y i).d, fun i => (y i).e,
      fun i => (y i).f, fun i => (y i).g, fun i => (y i).h,
      fun i => ch (y i).e (y i).f (y i).g + capSigma1 (y i).e + qword (s.vreg b) i + (y i).h, ht,
      rfl, rfl, rfl, rfl, rfl, rfl, rfl, rfl, fun i _ => ⟨rfl, rfl, rfl, rfl, rfl, rfl, rfl, rfl, rfl⟩,
      hv ▸ h3, hv ▸ h2, hv ▸ h1, hv ▸ h0, fun k hk => ?_, hframe⟩
    rw [hv]
    exact ofElems_four_high _ _ _ _ hk

end Sys2Proof.Machine

/-! ## SM3 (47 R386 to R390) -/

namespace Sys2Proof.Machine

/-- Each dword of VSM3MSG1 is `P1` of an exclusive or, which for the last one lacks the first source (47 R388). -/
theorem dword_sm3Msg1 (d a b : Vec) {j : Nat} (hj : j < 4) :
    dword (sm3Msg1 d a b) j =
      sm3P1 (dword d j ^^^ dword b j ^^^ (if j = 3 then 0 else rol32 (dword a j) 15)) := by
  obtain ⟨h0, h1, h2, h3⟩ := elem_ofElems_four (sm3P1 (dword d 0 ^^^ dword b 0 ^^^ rol32 (dword a 0) 15))
    (sm3P1 (dword d 1 ^^^ dword b 1 ^^^ rol32 (dword a 1) 15))
    (sm3P1 (dword d 2 ^^^ dword b 2 ^^^ rol32 (dword a 2) 15)) (sm3P1 (dword d 3 ^^^ dword b 3)) (by decide)
  interval_cases j
  · exact h0
  · exact h1
  · exact h2
  · exact h3.trans (congrArg sm3P1 BitVec.xor_zero.symm)

/-- The words of VSM3MSG2, before the last one is mixed with the first (47 R389). -/
def sm3Words (d a b : Vec) (k : Nat) : DWord := rol32 (dword a k) 7 ^^^ dword b k ^^^ dword d k

theorem dword_sm3Msg2 (d a b : Vec) :
    (∀ j < 3, dword (sm3Msg2 d a b) j = sm3Words d a b j) ∧
      dword (sm3Msg2 d a b) 3 = sm3Words d a b 3 ^^^ rol32 (sm3Words d a b 0) 6 ^^^ rol32 (sm3Words d a b 0) 15 ^^^
        rol32 (sm3Words d a b 0) 30 := by
  obtain ⟨h0, h1, h2, h3⟩ := elem_ofElems_four (sm3Words d a b 0) (sm3Words d a b 1) (sm3Words d a b 2)
    (sm3Words d a b 3 ^^^ rol32 (sm3Words d a b 0) 6 ^^^ rol32 (sm3Words d a b 0) 15 ^^^ rol32 (sm3Words d a b 0) 30)
    (by decide)
  refine ⟨fun j hj => ?_, h3⟩
  interval_cases j
  · exact h0
  · exact h1
  · exact h2

/-- The working variables before round 0, round 1, ... with the message words `w` (47 R390). -/
def sm3States (round : Nat) (x : Sm3) (w : Nat → DWord) : Nat → Sm3
  | 0 => x
  | i + 1 => sm3Round round (sm3States round x w i) (w i) (w (i + 2))

/-- The working variables and the constant that VSM3RNDS2 starts from (47 R390). -/
def sm3Start (round : Nat) (d a : Vec) : Sm3 :=
  ⟨dword a 3, dword a 2, rol32 (dword d 3) 9, rol32 (dword d 2) 9, dword a 1, dword a 0, rol32 (dword d 1) 19,
    rol32 (dword d 0) 19, rol32 (if round < 16 then 0x79CC4519 else 0x7A879D8A) round⟩

/-- VSM3RNDS2 keeps four of the working variables after two rounds. -/
theorem dword_sm3Rounds (d a b : Vec) {imm : Byte} {round : Nat} (hround : (imm &&& 0x3E).toNat = round) :
    dword (sm3Rounds d a b imm) 0 = (sm3States round (sm3Start round d a) (dword b) 2).f ∧
      dword (sm3Rounds d a b imm) 1 = (sm3States round (sm3Start round d a) (dword b) 2).e ∧
      dword (sm3Rounds d a b imm) 2 = (sm3States round (sm3Start round d a) (dword b) 2).b ∧
      dword (sm3Rounds d a b imm) 3 = (sm3States round (sm3Start round d a) (dword b) 2).a := by
  subst hround
  exact elem_ofElems_four _ _ _ _ (by decide)

/-- Bits 5:1 of the immediate are the even round number. -/
theorem sm3RoundNumber : ∀ imm : Byte, (imm &&& 0x3E).toNat = imm.toNat / 2 % 32 * 2 := by decide

/-- Settles O46: each instruction writes its result alone, whose dwords satisfy the equations; the two rounds are two steps
of the working variables. -/
theorem sm3Result : Obligations.Sm3Result := by
  unfold Obligations.Sm3Result
  intro d a b v imm s hready hsource
  refine ⟨?msg1, ?msg2, ?rounds⟩
  case msg1 =>
    obtain ⟨t, ht, hv, hframe⟩ := vexOp_writes (d := d) hready hsource (sm3Msg1 (s.vreg d) (s.vreg a))
    refine ⟨t, ht, fun j hj x hx => ?_, fun k hk => ?_, hframe⟩
    · rw [hv, dword_sm3Msg1 _ _ _ hj, hx]
      rfl
    · rw [hv]
      exact ofElems_four_high _ _ _ _ hk
  case msg2 =>
    obtain ⟨t, ht, hv, hframe⟩ := vexOp_writes (d := d) hready hsource (sm3Msg2 (s.vreg d) (s.vreg a))
    obtain ⟨hlow, hlast⟩ := dword_sm3Msg2 (s.vreg d) (s.vreg a) v
    refine ⟨t, sm3Words (s.vreg d) (s.vreg a) v, ht, fun j _ => rfl, hv ▸ hlow, hv ▸ hlast, fun k hk => ?_, hframe⟩
    rw [hv]
    exact ofElems_four_high _ _ _ _ hk
  case rounds =>
    let round := imm.toNat / 2 % 32 * 2
    let y := sm3States round (sm3Start round (s.vreg d) (s.vreg a)) (dword v)
    let S1 (i : Nat) : DWord := rol32 (rol32 (y i).a 12 + (y i).e + (y i).const) 7
    obtain ⟨t, ht, hv, hframe⟩ := vexOp_writes (d := d) hready hsource fun v => sm3Rounds (s.vreg d) (s.vreg a) v imm
    obtain ⟨h0, h1, h2, h3⟩ := dword_sm3Rounds (s.vreg d) (s.vreg a) v (sm3RoundNumber imm)
    refine ⟨t, fun i => (y i).a, fun i => (y i).b, fun i => (y i).c, fun i => (y i).d, fun i => (y i).e,
      fun i => (y i).f, fun i => (y i).g, fun i => (y i).h, fun i => (y i).const, S1,
      fun i => sm3GG (y i).e (y i).f (y i).g round + (y i).h + S1 i + dword v i, round, ht,
      rfl, rfl, rfl, rfl, rfl, rfl, rfl, rfl, rfl, rfl,
      fun i _ => ⟨rfl, rfl, rfl, rfl, rfl, rfl, rfl, rfl, rfl, rfl, rfl⟩,
      hv ▸ h3, hv ▸ h2, hv ▸ h1, hv ▸ h0, fun k hk => ?_, hframe⟩
    rw [hv]
    exact ofElems_four_high _ _ _ _ hk

end Sys2Proof.Machine

/-! ## SM4 (47 R392 to R396) -/

namespace Sys2Proof.Machine

/-- `lower_t` takes each byte through the S-box. -/
theorem byteAt_sm4LowerT (x : DWord) {n : Nat} (hn : n < 4) :
    byteAt (sm4LowerT x) n = sm4Sbox.getD (byteAt x n).toNat 0 := by
  apply BitVec.eq_of_toNat_eq
  have hlt := packNat_lt (fun k => sm4Sbox.getD (byteAt x k).toNat 0) 4
  rw [byteAt, elem, toNat_extractLsb'_eq_mod, sm4LowerT, BitVec.toNat_ofNat, Nat.mod_eq_of_lt hlt, packNat_div_mod _ hn]

/-- The cipher's words of a lane: the four of the first source, then the four of the result (47 R395, R396). -/
def sm4Words (t : DWord → DWord) (a b : Vec) (l k : Nat) : DWord :=
  if k < 4 then dword a (4 * l + k) else (sm4Lane t a b l).getD (k - 4) 0

/-- The words that a round of a lane adds up, with its key. -/
def sm4Mixed (t : DWord → DWord) (a b : Vec) (l k : Nat) : DWord :=
  sm4Words t a b l (k + 1) ^^^ sm4Words t a b l (k + 2) ^^^ sm4Words t a b l (k + 3) ^^^ dword b (4 * l + k)

/-- The recurrence of the cipher. -/
theorem sm4Words_add_four (t : DWord → DWord) (a b : Vec) (l : Nat) {k : Nat} (hk : k < 4) :
    sm4Words t a b l (k + 4) = sm4Words t a b l k ^^^ t (sm4Mixed t a b l k) := by
  interval_cases k <;> rfl

theorem length_sm4Lanes (t : DWord → DWord) (a b : Vec) (n : Nat) :
    ((List.range n).flatMap (sm4Lane t a b)).length = 4 * n := by
  induction n with
  | zero => rfl
  | succ n ih => rw [List.range_succ, List.flatMap_append, List.length_append, ih, List.flatMap_singleton]; rfl

/-- The lanes stand one after the other. -/
theorem getD_sm4Lanes (t : DWord → DWord) (a b : Vec) {n l k : Nat} (hl : l < n) (hk : k < 4) :
    ((List.range n).flatMap (sm4Lane t a b)).getD (4 * l + k) 0 = (sm4Lane t a b l).getD k 0 := by
  induction n with
  | zero => exact absurd hl (Nat.not_lt_zero l)
  | succ n ih =>
    have hlen := length_sm4Lanes t a b n
    rw [List.range_succ, List.flatMap_append, List.flatMap_singleton]
    obtain hlt | rfl := Nat.lt_succ_iff_lt_or_eq.mp hl
    · rw [List.getD_append _ _ _ _ (by omega), ih hlt]
    · rw [List.getD_append_right _ _ _ _ (by omega), hlen, Nat.add_sub_cancel_left]

/-- The dwords of a result are the last four of the words of their lane. -/
theorem dword_sm4Result (t : DWord → DWord) (a b : Vec) {n l k : Nat} (hn : n ≤ 4) (hl : l < n) (hk : k < 4) :
    dword (sm4Result t n a b) (4 * l + k) = sm4Words t a b l (k + 4) := by
  have hlen := length_sm4Lanes t a b n
  have hk4 : ¬ k + 4 < 4 := by omega
  rw [sm4Words, if_neg hk4, Nat.add_sub_cancel, ← getD_sm4Lanes t a b hl hk]
  exact elem_ofElems (by omega) (by omega)

theorem sm4Result_high (t : DWord → DWord) (a b : Vec) {n k : Nat} (hk : k ≥ 128 * n) :
    (sm4Result t n a b).getLsbD k = false := by
  have hlen := length_sm4Lanes t a b n
  exact pack_high _ (by omega)

/-- The bits that `T_KEY` and `T_RND` add to a word are rotations of the S-box's (47 R393). -/
def addsRotations (t : DWord → DWord) (rotations : List Nat) : Prop :=
  ∀ x y : DWord, x ^^^ t y =
    rotations.foldl (fun x n => x ^^^ (sm4LowerT y).rotateLeft n) (x ^^^ sm4LowerT y)

theorem sm4TKey_addsRotations : addsRotations sm4TKey [13, 23] := by
  intro x y
  simp only [sm4TKey, rol32, List.foldl_cons, List.foldl_nil, BitVec.xor_assoc]

theorem sm4TRnd_addsRotations : addsRotations sm4TRnd [2, 10, 18, 24] := by
  intro x y
  simp only [sm4TRnd, rol32, List.foldl_cons, List.foldl_nil, BitVec.xor_assoc]

/-- Settles O47 (`sm4Result` is the model's own function): the two instructions differ in the function of a round alone, and
each lane is the cipher's recurrence with it. -/
theorem sm4Result_holds : Obligations.Sm4Result := by
  unfold Obligations.Sm4Result
  intro d a b v s wide hready hsource i rotations hi
  obtain ⟨f, hexec, hf⟩ : ∃ f : DWord → DWord,
      exec i s = vexOp s [.avx, .sm4] d b (if wide then 32 else 16)
        (sm4Result f (if wide then 2 else 1) (s.vreg a)) ∧ addsRotations f rotations := by
    simp only [List.mem_cons, List.not_mem_nil, or_false, Prod.mk.injEq] at hi
    obtain ⟨rfl, rfl⟩ | ⟨rfl, rfl⟩ := hi
    · exact ⟨sm4TKey, by cases wide <;> rfl, sm4TKey_addsRotations⟩
    · exact ⟨sm4TRnd, by cases wide <;> rfl, sm4TRnd_addsRotations⟩
  obtain ⟨t, ht, hv, hframe⟩ := vexOp_writes (d := d) hready hsource (sm4Result f (if wide then 2 else 1) (s.vreg a))
  refine ⟨t, hexec.trans ht, fun l hl => ⟨sm4Words f (s.vreg a) v l, sm4Mixed f (s.vreg a) v l,
    fun k => sm4LowerT (sm4Mixed f (s.vreg a) v l k), fun k hk => ⟨if_pos hk, rfl, ?sbox, ?next⟩, fun k hk => ?new⟩,
    fun k hk => ?high, hframe⟩
  case sbox => exact fun n => byteAt_sm4LowerT _
  case next => exact (sm4Words_add_four f _ _ l hk).trans (hf _ _)
  case new => rw [hv, dword_sm4Result f _ _ (by split <;> decide) hl hk]
  case high =>
    have hbits : 128 * (if wide then 2 else 1) = if wide then 256 else 128 := by cases wide <;> rfl
    rw [hv]
    exact sm4Result_high f _ _ (hbits ▸ hk)

end Sys2Proof.Machine

/-! ## FP32 rounding, addition and fused multiply-add (48 R421) -/

namespace Sys2Proof.Machine

/-! ### Numbers from their fields -/

section
variable {sign : Bool} {e f m : Nat}

theorem toNat_fpSigned (sign : Bool) (hm : m < 2 ^ 31) : (fpSigned sign m).toNat = sign.toNat * 2 ^ 31 + m := by
  rw [fpSigned, BitVec.toNat_ofNat]
  cases sign with
  | false => rw [if_neg Bool.false_ne_true, Bool.toNat_false]; omega
  | true => rw [if_pos rfl, Bool.toNat_true]; omega

/-- A magnitude is its exponent field above its fraction field. -/
theorem fpSigned_fields (sign : Bool) (he : e < 2 ^ 8) (hf : f < 2 ^ 23) :
    FpFields (fpSigned sign (e * 2 ^ 23 + f)) sign e f :=
  .of_toNat he hf (by rw [toNat_fpSigned sign (by omega), Nat.add_assoc])

/-- The value of a normal number from its fields, in units of 2^-149. -/
theorem FpFields.units {x : DWord} (h : FpFields x sign (e + 1) f) :
    fpUnits x = (if sign then -1 else 1) * ((2 ^ 23 + f) * 2 ^ e : Nat) := by
  rw [fpUnits, h.sign, h.exp, h.frac, if_neg e.succ_ne_zero, Nat.add_sub_cancel]
  cases sign <;> simp

/-- A zero of either sign has the value 0. -/
theorem fpUnits_fpSigned_zero (sign : Bool) : fpUnits (fpSigned sign 0) = 0 := by
  cases sign <;> decide

end

/-! ### Rounding -/

/-- `x * 2^e` units of 2^-149 are 0, or a normal number of FP32. -/
def fpRepresentable (x : Int) (e : Nat) : Prop :=
  x = 0 ∨ (2 ^ 23 ≤ x.natAbs ∧ x.natAbs < 2 ^ 24 ∧ e ≤ 253)

section
variable {x : Int} {e k : Nat}

/-- A number with 24 bits before `e` zeros has its leading bit at `23 + e`. -/
theorem log2_mul_two_pow_of_24_bits {m : Nat} (hlow : 2 ^ 23 ≤ m) (hhigh : m < 2 ^ 24) (e : Nat) :
    Nat.log2 (m * 2 ^ e) = 23 + e := by
  have hpow : 0 < 2 ^ e := by positivity
  rw [Nat.log2_eq_iff (Nat.mul_ne_zero (by omega) hpow.ne'), show 23 + e + 1 = 24 + e by omega, pow_add, pow_add]
  exact ⟨Nat.mul_le_mul_right _ hlow, Nat.mul_lt_mul_of_pos_right hhigh hpow⟩

/-- Nothing is rounded where nothing is cut off. -/
theorem roundNearestEven_mul_two_pow (m n : Nat) : roundNearestEven (m * 2 ^ n) n = m := by
  have hpow : 0 < 2 ^ n := by positivity
  simp only [roundNearestEven, Nat.mul_mod_left, Nat.mul_div_cancel _ hpow, mul_zero, if_pos hpow]

theorem fpRound_zero (k : Nat) : fpRound k 0 = fpSigned false 0 := by
  have hround : roundNearestEven 0 k = 0 := by simpa using roundNearestEven_mul_two_pow 0 k
  simp [fpRound, hround]

/-- A number with 24 bits keeps them: the leading one is hidden, the others are the fraction. -/
theorem fpRound_of_24_bits (hlow : 2 ^ 23 ≤ x.natAbs) (hhigh : x.natAbs < 2 ^ 24) (he : e ≤ 253) (k : Nat) :
    fpRound k (x * 2 ^ (e + k)) = fpSigned (decide (x < 0)) ((e + 1) * 2 ^ 23 + (x.natAbs - 2 ^ 23)) := by
  have habs : (x * 2 ^ (e + k)).natAbs = x.natAbs * 2 ^ (e + k) := by rw [Int.natAbs_mul, Int.natAbs_pow]; rfl
  have hshift : max k (23 + (e + k) - 23) = e + k := by omega
  have hpow : (0 : Int) < 2 ^ (e + k) := by positivity
  have hsign : x * 2 ^ (e + k) < 0 ↔ x < 0 :=
    ⟨fun h => neg_of_mul_neg_left h hpow.le, fun h => mul_neg_of_neg_of_pos h hpow⟩
  have hbits : (e + k - k) * 2 ^ 23 + x.natAbs = (e + 1) * 2 ^ 23 + (x.natAbs - 2 ^ 23) := by
    rw [Nat.add_sub_cancel, Nat.add_mul]
    omega
  simp only [fpRound, habs, log2_mul_two_pow_of_24_bits hlow hhigh, hshift, roundNearestEven_mul_two_pow, hbits, hsign]
  rw [if_neg (by omega), min_eq_left (by omega)]

/-- Rounding keeps a number that FP32 represents. -/
theorem fpUnits_fpRound (h : fpRepresentable x e) (k : Nat) : fpUnits (fpRound k (x * 2 ^ (e + k))) = x * 2 ^ e := by
  obtain rfl | ⟨hlow, hhigh, he⟩ := h
  · rw [zero_mul, zero_mul, fpRound_zero, fpUnits_fpSigned_zero]
  · have hfields := fpSigned_fields (decide (x < 0)) (e := e + 1) (f := x.natAbs - 2 ^ 23) (by omega) (by omega)
    have hsign : (if decide (x < 0) then -1 else 1) * (x.natAbs : Int) = x := by
      by_cases hx : x < 0
      · simp only [hx, decide_true, if_true]; omega
      · simp only [hx, decide_false, Bool.false_eq_true, if_false]; omega
    rw [fpRound_of_24_bits hlow hhigh he, hfields.units, Nat.add_sub_cancel' hlow, Nat.cast_mul, ← mul_assoc, hsign]
    rfl

/-- The sum of two finite terms is exact where FP32 represents it. -/
theorem fpUnits_fpSum (h : fpRepresentable x e) {x1 x2 : Int} (hsum : x1 + x2 = x * 2 ^ (e + k)) (sign1 sign2 : Bool) :
    fpUnits (fpSum k false sign1 x1 false sign2 x2) = x * 2 ^ e := by
  simp only [fpSum, Bool.false_and, Bool.false_eq_true, if_false, hsum]
  split
  next hzero =>
    have hx : x = 0 := (mul_eq_zero.mp hzero).resolve_right (by positivity)
    rw [fpUnits_fpSigned_zero, hx, zero_mul]
  next => exact fpUnits_fpRound h k

end

section
variable {a b c : DWord}

theorem fpNaN_of_finite (h : fpExp a ≠ 255) : fpNaN a = false := by rw [fpNaN, beq_false_of_ne h, Bool.false_and]

theorem fpInf_of_finite (h : fpExp a ≠ 255) : fpInf a = false := by rw [fpInf, beq_false_of_ne h, Bool.false_and]

theorem addFtz_of_finite (ha : fpExp a ≠ 255) (hb : fpExp b ≠ 255) :
    addFtz a b = fpSum 0 false (fpSign a) (fpUnits a) false (fpSign b) (fpUnits b) := by
  simp only [addFtz, fpNaN_of_finite ha, fpNaN_of_finite hb, fpInf_of_finite ha, fpInf_of_finite hb,
    Bool.false_eq_true, if_false]

theorem fmaFtz_of_finite (ha : fpExp a ≠ 255) (hb : fpExp b ≠ 255) (hc : fpExp c ≠ 255) :
    fmaFtz a b c = fpSum 149 false (fpSign a != fpSign b) (fpUnits a * fpUnits b) false (fpSign c)
      (fpUnits c * 2 ^ 149) := by
  simp only [fmaFtz, fpNaN_of_finite ha, fpNaN_of_finite hb, fpNaN_of_finite hc, fpInf_of_finite ha,
    fpInf_of_finite hb, fpInf_of_finite hc, Bool.false_and, Bool.or_self, Bool.false_eq_true, if_false]

end

/-- Settles O49: a representable number has 24 bits, which rounding keeps; the sum and the fused multiply-add of finite
numbers round their exact value. -/
theorem fp32RoundExact : Obligations.Fp32RoundExact := by
  unfold Obligations.Fp32RoundExact
  intro x e h
  refine ⟨fpUnits_fpRound h, fun a b ha hb hsum => ?sum, fun a b c ha hb hc hsum => ?fma⟩
  case sum =>
    rw [addFtz_of_finite ha hb]
    exact fpUnits_fpSum h hsum _ _
  case fma =>
    rw [fmaFtz_of_finite ha hb hc]
    exact fpUnits_fpSum h hsum _ _

end Sys2Proof.Machine

/-! ## Denormals in FP32 results (48 R421) -/

namespace Sys2Proof.Machine

/-- An FP32 number is no denormal. -/
def notDenormal (x : DWord) : Prop := fpExp x = 0 → fpFrac x = 0

section
variable {x y : DWord}

theorem notDenormal_of_exp_ne_zero (h : fpExp x ≠ 0) : notDenormal x := fun h0 => absurd h0 h

theorem fpExp_or (x y : DWord) : fpExp (x ||| y) = fpExp x ||| fpExp y := by
  rw [fpExp, BitVec.toNat_or, Nat.or_div_two_pow, Nat.or_mod_two_pow, fpExp, fpExp]

theorem notDenormal_fpQuiet (h : fpNaN x = true) : notDenormal (fpQuiet x) := by
  refine notDenormal_of_exp_ne_zero ?_
  have hexp : fpExp x = 255 := by
    simp only [fpNaN, Bool.and_eq_true, beq_iff_eq] at h
    exact h.1
  rw [fpQuiet, fpExp_or, hexp]
  exact fun h0 => absurd (Nat.or_eq_zero_iff.mp h0).1 (by decide)

/-- A magnitude that is 0 or has an exponent is no denormal. -/
theorem notDenormal_fpSigned (sign : Bool) {m : Nat} (hm : m = 0 ∨ 2 ^ 23 ≤ m) (hlt : m < 2 ^ 31) :
    notDenormal (fpSigned sign m) := by
  intro hexp
  have hnat := toNat_fpSigned sign hlt
  have hsign := sign.toNat_le
  rw [fpExp, hnat] at hexp
  rw [fpFrac, hnat]
  omega

theorem notDenormal_fpRound (k : Nat) (x : Int) : notDenormal (fpRound k x) := by
  unfold fpRound
  simp only
  split
  next => exact notDenormal_fpSigned _ (.inl rfl) (by decide)
  next hbits =>
    exact notDenormal_fpSigned _ (.inr (le_min (Nat.le_of_not_lt hbits) (by decide)))
      ((min_le_right _ _).trans_lt (by decide))

theorem notDenormal_fpSum (k : Nat) (inf1 sign1 : Bool) (x1 : Int) (inf2 sign2 : Bool) (x2 : Int) :
    notDenormal (fpSum k inf1 sign1 x1 inf2 sign2 x2) := by
  unfold fpSum
  split_ifs
  · exact notDenormal_of_exp_ne_zero (by decide)
  · exact notDenormal_fpSigned _ (.inr (by decide)) (by decide)
  · exact notDenormal_fpSigned _ (.inr (by decide)) (by decide)
  · exact notDenormal_fpSigned _ (.inl rfl) (by decide)
  · exact notDenormal_fpRound k _

theorem notDenormal_addFtz (a b : DWord) : notDenormal (addFtz a b) := by
  unfold addFtz
  split_ifs with ha hb
  · exact notDenormal_fpQuiet ha
  · exact notDenormal_fpQuiet hb
  · exact notDenormal_fpSum _ _ _ _ _ _ _

theorem notDenormal_toFp32 (before : Bool) (nan : DWord) (v : AmxValue) : notDenormal (v.toFp32 before nan) := by
  unfold AmxValue.toFp32
  split
  next =>
    refine notDenormal_of_exp_ne_zero ?_
    rw [fpExp_or]
    exact fun h0 => absurd (Nat.or_eq_zero_iff.mp h0).2 (by decide)
  next => exact notDenormal_fpSigned _ (.inr (by decide)) (by decide)
  next =>
    split
    · exact notDenormal_fpSigned _ (.inl rfl) (by decide)
    · exact notDenormal_fpRound 149 _

/-- An element of a tile multiplication is no denormal, whatever the order of accumulation. -/
theorem notDenormal_amxElement (s : State) (op : AmxOp) (c : DWord) (pairs : List (DWord × DWord)) :
    notDenormal (amxElement s op c pairs) := by
  unfold amxElement
  split
  · exact notDenormal_addFtz c _
  · exact notDenormal_toFp32 _ _ _

end

end Sys2Proof.Machine

/-! ## The tile multiplications (48 R417 to R425) -/

namespace Sys2Proof.Machine

section
variable {s : State} {f : Feature} {op : AmxOp} {d a b : RegNum}

/-! ### What a palette allows (48 R411, R412) -/

/-- No palette allows more than the tiles of the state hold. -/
theorem paletteLimits_le (s : State) (id : Nat) :
    (paletteLimits s id).names ≤ 8 ∧ (paletteLimits s id).rows ≤ 16 ∧ (paletteLimits s id).bytesPerRow ≤ 64 := by
  unfold paletteLimits
  simp only
  split_ifs
  · exact ⟨by decide, by decide, by decide⟩
  · exact ⟨min_le_left _ _, min_le_left _ _, min_le_left _ _⟩
  · exact ⟨by decide, by decide, by decide⟩

/-- A tile is valid for the palette: it is one of its tiles, and its rows and bytes per row are allowed. -/
def tileValid (s : State) (limits : PaletteLimits) (x : RegNum) : Prop :=
  x.toNat < limits.names ∧ 1 ≤ s.tileRows x ∧ s.tileRows x ≤ limits.rows ∧ 1 ≤ s.tileColsb x ∧
    s.tileColsb x ≤ limits.bytesPerRow ∧ s.tileColsb x % 4 = 0

theorem tileLegal_of_valid {x : RegNum} (h : tileValid s (paletteLimits s s.tilecfg.palette.toNat) x) :
    tileLegal s x = true := by
  obtain ⟨hname, hrows, hrows', hcols, hcols', hdwords⟩ := h
  simp [tileLegal, hname, hrows, hrows', hcols, hcols', hdwords]

/-- A valid tile has at most 8 names, 16 rows and 64 bytes per row, in whole doublewords. -/
theorem tileValid.bounds {id : Nat} {x : RegNum} (h : tileValid s (paletteLimits s id) x) :
    x.toNat < 8 ∧ s.tileRows x ≤ 16 ∧ s.tileColsb x ≤ 64 ∧ s.tileColsb x % 4 = 0 := by
  obtain ⟨hnames, hrows, hbytes⟩ := paletteLimits_le s id
  obtain ⟨hname, -, hrows', -, hcols, hdwords⟩ := h
  exact ⟨hname.trans_le hnames, hrows'.trans hrows, hcols.trans hbytes, hdwords⟩

/-! ### The checks (48 R425) -/

/-- The enables of a tile multiplication with feature flag `f`. -/
def amxReady (s : State) (f : Feature) : Prop :=
  s.in64 = true ∧ enumerated s f = true ∧ s.avxEnabled = true ∧ s.xcr0.getLsbD 17 = true ∧ s.xcr0.getLsbD 18 = true ∧
    s.taskSwitched = false ∧ s.tilesConfigured = true

/-- The dimensions of three tiles match, and fit the TMUL unit (48 R418). -/
def tilesMatch (s : State) (d a b : RegNum) : Prop :=
  s.tileRows d = s.tileRows a ∧ s.tileColsb d = s.tileColsb b ∧ s.tileColsb a / 4 = s.tileRows b ∧
    s.tileColsb b ≤ tmulMaxN s ∧ s.tileRows b ≤ tmulMaxK s

theorem tileDimsMatch_of_match (h : tilesMatch s d a b) : tileDimsMatch s d a b = true := by
  obtain ⟨hrows, hcols, hinner, hn, hk⟩ := h
  simp [tileDimsMatch, hrows, hcols, hinner, hn, hk]

theorem amxCheck_eq_ok (hready : amxReady s f)
    (hvalid : ∀ x ∈ [d, a, b], tileValid s (paletteLimits s s.tilecfg.palette.toNat) x) (hda : d ≠ a) (hdb : d ≠ b)
    (hab : a ≠ b) (hdims : tilesMatch s d a b) : amxCheck s f d a b = .ok () := by
  obtain ⟨h64, henum, havx, h17, h18, hts, hconfigured⟩ := hready
  have hd := tileLegal_of_valid (hvalid d (by simp))
  have ha := tileLegal_of_valid (hvalid a (by simp))
  have hb := tileLegal_of_valid (hvalid b (by simp))
  rw [amxCheck, h64, henum, havx, h17, h18, hts, hconfigured, hd, ha, hb, bne_iff_ne.mpr hda, bne_iff_ne.mpr hdb,
    bne_iff_ne.mpr hab, tileDimsMatch_of_match hdims]
  rfl

theorem amxMultiply_of_checks (h : amxCheck s f d a b = .ok ()) (op : AmxOp) :
    amxMultiply s f op d a b = .next (s.setTile d (amxTile s op d a b)).zeroStartRow.retire := by
  rw [amxMultiply, settle_bind_of_ok h]
  rfl

/-! ### The tiles -/

theorem State.tile_setTile_same (s : State) (d : RegNum) (v : Vector Vec 16) : (s.setTile d v).tile d = v := by
  simp [State.tile, State.setTile]

theorem State.tile_setTile_other (s : State) {x d : RegNum} (v : Vector Vec 16) (h : x.toNat % 8 ≠ d.toNat % 8) :
    (s.setTile d v).tile x = s.tile x := by
  simp [State.tile, State.setTile, Vector.getElem_set_ne, h.symm]

/-- A row of the destination: its elements where it is configured, else zeros (48 R417, R422). -/
theorem tileRow_amxTile (hrows : s.tileRows d ≤ 16) (op : AmxOp) (m : Nat) :
    tileRow (amxTile s op d a b) m =
      if m < s.tileRows d then
        pack (s.tileColsb d / 4) fun n => amxElement s op (dword (tileRow (s.tile d) m) n) (amxPairs s a b m n)
      else 0 := by
  by_cases hm : m < 16
  · rw [tileRow, amxTile, Vector.getElem?_eq_getElem hm, Vector.getElem_ofFn, Option.getD_some]
  · rw [tileRow, Vector.getElem?_eq_none (Nat.le_of_not_lt hm), if_neg (by omega), Option.getD_none]

/-! ### The elements -/

/-- For each variant the words of the factors, low 0 and high 1, in its two accumulations, and the sign bit that the second
one changes (48 R422 to R424). -/
def amxFactorWords : List (AmxOp × Nat × Nat × Nat × Nat × DWord) :=
  [(.dot, 0, 0, 1, 1, 0), (.imaginary, 1, 0, 0, 1, 0), (.real, 0, 0, 1, 1, 0x80000000)]

/-- The reference element is the old one added to the sum of the two accumulations. -/
theorem amxReferenceElement_eq {x0 y0 x1 y1 : Nat} {sign : DWord}
    (h : (op, x0, y0, x1, y1, sign) ∈ amxFactorWords) (c : DWord) (pairs : List (DWord × DWord)) :
    amxReferenceElement op c pairs = addFtz c (addFtz
      (pairs.foldl (fun acc p => fmaFtz (fp16ToFp32 true (word16 p.1 x0)) (fp16ToFp32 true (word16 p.2 y0)) acc) 0)
      (pairs.foldl (fun acc p =>
        fmaFtz (fp16ToFp32 true (word16 p.1 x1) ^^^ sign) (fp16ToFp32 true (word16 p.2 y1)) acc) 0)) := by
  simp only [amxFactorWords, List.mem_cons, List.not_mem_nil, or_false, Prod.mk.injEq] at h
  obtain ⟨rfl, rfl, rfl, rfl, rfl, rfl⟩ | ⟨rfl, rfl, rfl, rfl, rfl, rfl⟩ | ⟨rfl, rfl, rfl, rfl, rfl, rfl⟩ := h
  · simp only [amxReferenceElement, amxFactors, BitVec.ofNat_eq_ofNat, BitVec.xor_zero]
  · simp only [amxReferenceElement, amxFactors, BitVec.ofNat_eq_ofNat, BitVec.xor_zero]
  · rfl

/-- An element is the reference where the platform follows it or every order agrees, else what some order gives. -/
theorem amxElement_of_reference {c : DWord} {pairs : List (DWord × DWord)}
    (h : s.platform.amxReference = true ∨ amxExact op c pairs = true) :
    amxElement s op c pairs = amxReferenceElement op c pairs := if_pos (by simpa using h)

theorem amxElement_of_order {c : DWord} {pairs : List (DWord × DWord)} (href : s.platform.amxReference = false)
    (hexact : amxExact op c pairs = false) : ∃ order nan, amxElement s op c pairs = amxOrdered order nan op c pairs :=
  ⟨_, _, if_neg (by simp [href, hexact])⟩

end

/-- Settles O48: the checks pass, the destination is the model's tile, and its rows are read element by element. -/
theorem amxResult : Obligations.AmxResult := by
  unfold Obligations.AmxResult
  intro i op f x0 y0 x1 y1 sign hi d a b s limits h64 henum havx h17 h18 hts hconfigured hlimits hvalid hda hdb hab
    hrows hcols hinner hn hk
  subst hlimits
  obtain ⟨hexec, hwords⟩ : exec (i d a b) s = amxMultiply s f op d a b ∧
      (op, x0, y0, x1, y1, sign) ∈ amxFactorWords := by
    simp only [List.mem_cons, List.not_mem_nil, or_false, Prod.mk.injEq] at hi
    obtain ⟨rfl, rfl, rfl, rfl, rfl, rfl, rfl, rfl⟩ | ⟨rfl, rfl, rfl, rfl, rfl, rfl, rfl, rfl⟩ |
      ⟨rfl, rfl, rfl, rfl, rfl, rfl, rfl, rfl⟩ := hi
    · exact ⟨rfl, by simp [amxFactorWords]⟩
    · exact ⟨rfl, by simp [amxFactorWords]⟩
    · exact ⟨rfl, by simp [amxFactorWords]⟩
  have hvalid' : ∀ x ∈ [d, a, b], tileValid s (paletteLimits s s.tilecfg.palette.toNat) x := hvalid
  have hcheck : amxCheck s f d a b = .ok () := amxCheck_eq_ok ⟨h64, henum, havx, h17, h18, hts, hconfigured⟩ hvalid'
    hda hdb hab ⟨hrows, hcols, hinner, hn, hk⟩
  obtain ⟨hname, hrows16, hcols64, hdwords⟩ := (hvalid' d (by simp)).bounds
  set t := (s.setTile d (amxTile s op d a b)).zeroStartRow.retire with ht
  have htile : t.tile d = amxTile s op d a b := State.tile_setTile_same ..
  have hrow (m : Nat) := tileRow_amxTile (a := a) (b := b) hrows16 op m
  refine ⟨t, hexec.trans (amxMultiply_of_checks hcheck op), ?elements, fun m hm k hk => ?high, fun m hm => ?below,
    fun x hx => ?others, rfl, fun _ _ => rfl, rfl, rfl, fun _ => rfl, rfl, rfl, rfl, rfl, rfl, rfl⟩
  case elements =>
    intro m hm n hn old new pairs hold hnew hpairs
    have helement : new = amxElement s op old pairs := by
      rw [hnew, htile, hrow, if_pos hm, dword, elem_pack _ hn (by omega), hold, hpairs]
      rfl
    rw [helement]
    exact ⟨rfl, notDenormal_amxElement s op old pairs, amxElement_of_order, fun h =>
      (amxElement_of_reference h).trans (amxReferenceElement_eq hwords old pairs)⟩
  case high =>
    rw [htile, hrow, if_pos hm]
    exact pack_high _ (by omega)
  case below => rw [htile, hrow, if_neg (Nat.not_lt.mpr hm)]
  case others => exact State.tile_setTile_other s _ (by omega)

end Sys2Proof.Machine

/-! ## Guest-timer events (60 R532 to R534) -/

namespace Sys2Proof.Machine

/-- The processor after a guest-timer event: HLT is kept, every other wait ends (60 R533). -/
theorem activity_guestTimer (s : State) :
    (if s.activity = .hlt then s else s.wakeUp).activity = if s.activity = .hlt then .hlt else .active := by
  split
  next h => exact h
  next => rfl

/-- RF is set where the last step stopped between entries of a list, and no other flag changes. -/
theorem getLsbD_rflags_markResume (s : State) (n : Nat) :
    s.markResume.rflags.getLsbD n = (s.rflags.getLsbD n || decide (n = 16) && s.midList) := by
  have hresume : (0x10000 : QWord) = BitVec.twoPow 64 16 := by decide
  unfold State.markResume
  split
  next h =>
    rw [h, Bool.and_true, hresume, BitVec.getLsbD_or, BitVec.getLsbD_twoPow, decide_eq_true (by decide : 16 < 64),
      Bool.true_and]
    simp only [eq_comm]
  next h => rw [Bool.eq_false_iff.mpr h, Bool.and_false, Bool.or_false]

/-- Settles O58: the event's conditions hold, so that it is processed; each component is read from what it writes. -/
theorem guestTimerProcessed : Obligations.GuestTimerProcessed := by
  unfold Obligations.GuestTimerProcessed
  intro s hvmx hcontrol hpending henclave
  have hout : ¬ s.enclave = true := ne_true_of_eq_false henclave
  set w := if s.activity = .hlt then s else s.wakeUp with hw
  have hrflags : w.rflags = s.rflags := by rw [hw]; split <;> rfl
  have hmidList : w.midList = s.midList := by rw [hw]; split <;> rfl
  refine ⟨_, by rw [onEvent, onGuestTimer, if_pos ⟨hvmx, hcontrol, hpending⟩, if_neg hout], rfl, ?rvi, rfl, rfl, rfl,
    ?activity, fun n _ => ?flags⟩
  case rvi =>
    simp only
    split <;> omega
  case activity => exact (State.markResume_activity w).trans (activity_guestTimer s)
  case flags =>
    rw [← hrflags, ← hmidList]
    exact getLsbD_rflags_markResume w n

end Sys2Proof.Machine

/-! ## From a user-timer event to a user interrupt (60 R522, R523) -/

namespace Sys2Proof.Machine

/-- CPL, CR4, UIF, the user timer and the user-interrupt requests are the same. -/
def sameUintr (s t : State) : Prop :=
  t.cpl = s.cpl ∧ t.cr4 = s.cr4 ∧ t.uif = s.uif ∧ t.userTimer = s.userTimer ∧ t.uirr = s.uirr

/-- The pending user-timer event has become a request of its vector (60 R522). -/
def requestUser (s : State) : State :=
  { s with
    userTimer := { s.userTimer with pending := false }
    uirr := s.uirr ||| BitVec.twoPow 64 s.userTimer.vector.toNat }

section
variable {s t u : State}

theorem sameUintr.trans (h : sameUintr s t) (h' : sameUintr t u) : sameUintr s u := by
  obtain ⟨hcpl, hcr4, huif, htimer, huirr⟩ := h
  obtain ⟨hcpl', hcr4', huif', htimer', huirr'⟩ := h'
  exact ⟨hcpl'.trans hcpl, hcr4'.trans hcr4, huif'.trans huif, htimer'.trans htimer, huirr'.trans huirr⟩

theorem sameUintr.request (h : sameUintr s t) : sameUintr (requestUser s) (requestUser t) := by
  obtain ⟨hcpl, hcr4, huif, htimer, huirr⟩ := h
  exact ⟨hcpl, hcr4, huif, by simp only [requestUser, htimer], by simp only [requestUser, htimer, huirr]⟩

/-! ### Time and the agents -/

theorem raoPick_frame (s : State) (picks : List Nat) : raoPick s picks =
    { s with mem := (raoPick s picks).mem, monitor := (raoPick s picks).monitor, rao := (raoPick s picks).rao } := by
  induction picks generalizing s with
  | nil => rfl
  | cons i picks ih =>
    rw [raoPick]
    split
    next v _ => rw [ih]; rfl
    next => exact ih s

/-- The memory system touches memory, the monitor, the queue and the environment's choices alone. -/
theorem raoAgent_frame (s : State) : raoAgent s =
    { s with mem := (raoAgent s).mem, monitor := (raoAgent s).monitor, rao := (raoAgent s).rao
             env := (raoAgent s).env } := by
  unfold raoAgent
  split
  · rw [raoDrain_frame]
  · rw [raoPick_frame]

/-- A pending event keeps the agent from raising another. -/
theorem userTimerAgent_of_pending (h : s.userTimer.pending = true) : userTimerAgent s = s :=
  if_neg (by simp [h])

/-- The agents that act at a boundary before anything is taken. -/
def agents (s : State) : State := raoAgent (guestTimerAgent (userTimerAgent (tick s)))

/-- While a user-timer event is pending the agents leave the timer and the requests alone. -/
theorem agents_frame (h : s.userTimer.pending = true) : agents s =
    { s with tsc := (agents s).tsc, guestTimer := (agents s).guestTimer, mem := (agents s).mem
             monitor := (agents s).monitor, rao := (agents s).rao, env := (agents s).env } := by
  have htick : userTimerAgent (tick s) = tick s := userTimerAgent_of_pending h
  unfold agents
  rw [raoAgent_frame, htick, guestTimerAgent_frame]
  rfl

theorem sameUintr_agents (h : s.userTimer.pending = true) : sameUintr s (agents s) := by
  rw [agents_frame h]
  exact ⟨rfl, rfl, rfl, rfl, rfl⟩

theorem agents_events (s : State) : (agents s).env.events = s.env.events := by
  obtain ⟨-, -, hevents⟩ := timers_keep s
  exact (raoAgent_events _).trans hevents

theorem sameUintr_dataBreaks (h : dataBreaks s = .ok t) : sameUintr s t ∧ t.env = s.env := by
  rw [dataBreaks_eq_ok h]
  exact ⟨⟨rfl, rfl, rfl, rfl, rfl⟩, rfl⟩

theorem sameUintr_endMonitoredWait (s : State) : sameUintr s (endMonitoredWait s) := by
  unfold endMonitoredWait
  split
  · split <;> exact ⟨rfl, rfl, rfl, rfl, rfl⟩
  · exact ⟨rfl, rfl, rfl, rfl, rfl⟩

/-- The parts of a boundary that nothing stops; those around the events touch neither the timer nor the requests. -/
theorem boundary_events (hpending : s.userTimer.pending = true) (h : boundary s = .ok t) :
    ∃ r v, sameUintr s r ∧ r.env.events = s.env.events ∧ takeEvents r = .ok v ∧ sameUintr v t := by
  simp only [boundary, boundary_bind_eq_ok, pure, Except.pure, Except.ok.injEq] at h
  obtain ⟨r, hdata, v, hevents, w, huser, x, hcode, rfl⟩ := h
  obtain ⟨hbreaks, henv⟩ := sameUintr_dataBreaks hdata
  refine ⟨r, v, (sameUintr_agents hpending).trans hbreaks, ?_, hevents, ?_⟩
  · rw [henv]
    exact agents_events s
  · obtain ⟨-, rfl⟩ := onMatches_eq_ok.mp hcode
    rw [recognizeUser_eq_ok huser, fireTriggers_frame]
    exact sameUintr_endMonitoredWait v

/-! ### Where the event is not processed -/

/-- User-timer events are processed at CPL 3 with CR4.UINTR = 1 (60 R522, 70_reset R583). -/
def takesUserTimer (s : State) : Prop := s.cpl = 3 ∧ s.uintrEnabled = true

theorem onUserTimer_of_not_taken (h : ¬ takesUserTimer s) : onUserTimer s = .ok s := by
  rw [onUserTimer, if_neg fun hall => h ⟨hall.1, hall.2.2⟩]

/-- Nothing at a boundary changes CPL or CR4. -/
theorem BoundaryUpdates.takesUserTimer_iff (h : BoundaryUpdates s t) : takesUserTimer t ↔ takesUserTimer s := by
  have hkeeps : ∀ {v w : State}, BoundaryUpdate v w → w.cpl = v.cpl ∧ w.cr4 = v.cr4 := by
    intro v w hvw
    cases hvw with
    | quiet hq => rw [hq]; exact ⟨rfl, rfl⟩
    | time | userTimer | store | resumeFlag | msr | tmeKey | tseKey => exact ⟨rfl, rfl⟩
  induction h with
  | refl => rfl
  | tail _ hstep ih =>
    obtain ⟨hcpl, hcr4⟩ := hkeeps hstep
    refine Iff.trans ?_ ih
    rw [takesUserTimer, State.uintrEnabled, hcpl, hcr4, takesUserTimer, State.uintrEnabled]

theorem captureMsrs_userTimer (s : State) (l : List Nat) : (captureMsrs s l).2.userTimer = s.userTimer := by
  induction l generalizing s with
  | nil => rfl
  | cons a l ih =>
    refine (ih (msrRead s a).2).trans ?_
    rw [sameSystem_msrRead s a]

/-- Where user-timer events are not processed, no event touches the user timer. -/
theorem onEvent_userTimer_eq {e : Event} (hs : ¬ takesUserTimer s) (h : onEvent s e = .ok t) :
    t.userTimer = s.userTimer := by
  cases e with
  | interrupt v | pmi v =>
    simp only [onEvent, onInterrupt] at h
    split at h
    · exact absurd h (deliver_ne_ok _ s t)
    · split at h <;> cases h <;> rfl
  | nmi | smi | init | reset | debug | machineCheck => exact absurd h (deliver_ne_ok _ s t)
  | userInterrupt v => cases h; rfl
  | store pa bs processor => cases h; rfl
  | tmeKey k e => simp only [onEvent] at h; cases h; split <;> rfl
  | tseKey k e => simp only [onEvent] at h; cases h; split <;> rfl
  | throttle n v =>
    simp only [onEvent, onThrottle] at h
    cases h
    split
    · rw [msrPut_throttle]
    · rfl
  | wake => simp only [onEvent, onWake] at h; cases h; split <;> rfl
  | userTimer =>
    rw [onEvent, onUserTimer_of_not_taken hs] at h
    cases h
    rfl
  | guestTimer =>
    simp only [onEvent, onGuestTimer] at h
    split at h
    · split at h
      · exact absurd h (deliver_ne_ok _ s t)
      · cases h
        refine (State.markResume_userTimer _).trans ?_
        split <;> rfl
    · cases h; rfl
  | virtualInterrupt =>
    simp only [onEvent, onVirtualInterrupt] at h
    split at h
    · exact absurd h (deliver_ne_ok _ s t)
    · cases h; rfl
  | perfEvent n | perfOverflow n => cases h; rw [fireTriggers_frame]
  | pebsRecord counters metrics =>
    simp only [onEvent, onPebs] at h
    cases h
    split <;> exact captureMsrs_userTimer s _

theorem foldlM_onEvent_userTimer_eq {es : List Event} (hs : ¬ takesUserTimer s) (h : es.foldlM onEvent s = .ok t) :
    t.userTimer = s.userTimer := by
  induction es generalizing s with
  | nil => cases h; rfl
  | cons e es ih =>
    rw [List.foldlM_cons, boundary_bind_eq_ok] at h
    obtain ⟨u, he, hes⟩ := h
    have hu : ¬ takesUserTimer u := fun hu => hs ((onEvent_updates he).takesUserTimer_iff.mp hu)
    exact (ih hu hes).trans (onEvent_userTimer_eq hs he)

theorem boundary_userTimer_eq (hpending : s.userTimer.pending = true) (hs : ¬ takesUserTimer s)
    (h : boundary s = .ok t) : t.userTimer = s.userTimer := by
  obtain ⟨r, v, ⟨hcpl, hcr4, -, htimer, -⟩, -, hevents, -, -, -, htimer', -⟩ := boundary_events hpending h
  have hr : ¬ takesUserTimer { r with env := { r.env with events := r.env.events.tail } } := by
    rw [takesUserTimer, State.uintrEnabled, hcpl, hcr4]
    exact hs
  exact htimer'.trans ((foldlM_onEvent_userTimer_eq hr hevents).trans htimer)

/-! ### Where it is -/

theorem onUserTimer_of_taken (hpending : s.userTimer.pending = true) (hs : takesUserTimer s) :
    onUserTimer s = .ok (requestUser s) := by
  rw [onUserTimer, if_pos ⟨hs.1, hpending, hs.2⟩]
  rfl

theorem sameUintr_onGuestTimer (h : onGuestTimer s = .ok t) : sameUintr s t := by
  unfold onGuestTimer at h
  split at h
  · split at h
    · exact absurd h (deliver_ne_ok _ s t)
    · cases h
      split <;> simp [sameUintr]
  · cases h
    exact ⟨rfl, rfl, rfl, rfl, rfl⟩

/-- Where the environment has no event to come, the pending timer events are processed (70_reset R601). -/
theorem takeEvents_of_none (h : s.env.events = []) : takeEvents s = onUserTimer s >>= onGuestTimer := by
  have hsame : { s with env := { s.env with events := s.env.events.tail } } = s := by rw [h, List.tail_nil, ← h]
  rw [takeEvents, hsame, boundaryEvents, h]
  simp only [nextChoice, List.headD_nil, List.foldlM_cons, List.foldlM_nil, onEvent, bind_pure]

/-- A boundary that nothing stops leaves the request. -/
theorem boundary_requests (hpending : s.userTimer.pending = true) (hs : takesUserTimer s) (hevents : s.env.events = [])
    (h : boundary s = .ok t) : sameUintr (requestUser s) t := by
  obtain ⟨r, v, hr, henv, htake, hv⟩ := boundary_events hpending h
  obtain ⟨hcpl, hcr4, -, htimer, -⟩ := id hr
  have hr' : takesUserTimer r := by rwa [takesUserTimer, State.uintrEnabled, hcpl, hcr4]
  rw [takeEvents_of_none (henv.trans hevents), onUserTimer_of_taken (htimer ▸ hpending) hr'] at htake
  exact (hr.request.trans (sameUintr_onGuestTimer htake)).trans hv

/-! ### Delivery -/

/-- The highest request is set, and none above it. -/
theorem highestRequest_spec {r : QWord} (hr : r ≠ 0) :
    r.getLsbD (highestRequest r).toNat = true ∧ ∀ k > (highestRequest r).toNat, r.getLsbD k = false := by
  have hne : r.toNat ≠ 0 := fun h => hr (BitVec.eq_of_toNat_eq h)
  have hlog : Nat.log2 r.toNat < 64 := (Nat.log2_lt hne).mpr r.isLt
  have hnat : (highestRequest r).toNat = Nat.log2 r.toNat := by
    rw [highestRequest, BitVec.toNat_ofNat, Nat.mod_eq_of_lt hlog]
  rw [hnat]
  refine ⟨Nat.testBit_log2 hne, fun k hk => Nat.testBit_lt_two_pow ?_⟩
  exact Nat.lt_log2_self.trans_le (Nat.pow_le_pow_right (by decide) hk)

/-- A request is never empty. -/
theorem requestUser_uirr_ne_zero (s : State) : (requestUser s).uirr ≠ 0 := by
  intro h
  have hbit : (requestUser s).uirr.getLsbD s.userTimer.vector.toNat = true := by
    have hlt := s.userTimer.vector.isLt
    simp only [requestUser, BitVec.getLsbD_or, BitVec.getLsbD_twoPow, decide_eq_true (show _ < 64 from hlt),
      decide_true, Bool.and_self, Bool.or_true]
  rw [h] at hbit
  exact absurd hbit (by simp)

/-- With UIF = 1 the boundary delivers the highest request, outside a guest and where no data breakpoint matched. -/
theorem boundary_delivers (hpending : s.userTimer.pending = true) (hs : takesUserTimer s) (hevents : s.env.events = [])
    (huif : s.uif = true) (hvmx : s.vmx ≠ .nonRoot) (hmatched : s.matched = []) :
    ∃ w, boundary s = .error (.delivered (.userInterrupt (highestRequest w.uirr)) w.wakeUp.markResume) ∧
      sameUintr (requestUser s) w := by
  have hagents := sameUintr_agents hpending
  obtain ⟨hcpl, hcr4, -, htimer, -⟩ := id hagents
  have hdata : dataBreaks (agents s) = .ok (agents s) := dataBreaks_nil (by rw [agents_frame hpending]; exact hmatched)
  have htaken : takesUserTimer (agents s) := by rwa [takesUserTimer, State.uintrEnabled, hcpl, hcr4]
  have hguest : onGuestTimer (requestUser (agents s)) = .ok (requestUser (agents s)) := by
    rw [onGuestTimer, if_neg]
    rintro ⟨hin, -⟩
    rw [agents_frame hpending] at hin
    exact hvmx hin
  have htake : takeEvents (agents s) = .ok (requestUser (agents s)) := by
    rw [takeEvents_of_none ((agents_events s).trans hevents), onUserTimer_of_taken (htimer ▸ hpending) htaken]
    exact hguest
  have hwait : sameUintr (requestUser s) (endMonitoredWait (requestUser (agents s))) :=
    hagents.request.trans (sameUintr_endMonitoredWait _)
  obtain ⟨hcpl', hcr4', huif', -, huirr'⟩ := id hwait
  have hrecognize := recognizeUser_eq_error.mpr ⟨⟨huirr' ▸ requestUser_uirr_ne_zero s, huif'.trans huif,
    hcpl'.trans hs.1, (congrArg (BitVec.getLsbD · 25) hcr4').trans hs.2⟩, rfl⟩
  refine ⟨_, ?_, hwait⟩
  change (dataBreaks (agents s) >>= _) = _
  rw [hdata]
  change (takeEvents (agents s) >>= _) = _
  rw [htake]
  change (recognizeUser (endMonitoredWait (requestUser (agents s))) >>= _) = _
  rw [hrecognize]
  rfl

end

/-- Settles O57: what is around the events at a boundary leaves the timer and the requests alone; of the events only the
user timer's touches the timer, and under its conditions alone. -/
theorem userTimerOnlyAtCpl3 : Obligations.UserTimerOnlyAtCpl3 := by
  unfold Obligations.UserTimerOnlyAtCpl3
  intro s t hpending
  refine ⟨fun hs h => ?stays, fun hcpl hcr4 => ⟨?processed, fun hevents _ h => ?requested,
    fun hevents huif hvmx hmatched => ?delivered⟩⟩
  case stays =>
    have hs' : ¬ takesUserTimer s := fun htaken => hs.elim (fun h => h htaken.1) fun h => by
      have henabled : s.cr4.getLsbD 25 = true := htaken.2
      rw [h] at henabled
      cases henabled
    rw [boundary_userTimer_eq hpending hs' h, hpending]
  case processed => exact onUserTimer_of_taken hpending ⟨hcpl, hcr4⟩
  case requested =>
    obtain ⟨-, -, -, htimer, huirr⟩ := boundary_requests hpending ⟨hcpl, hcr4⟩ hevents h
    exact ⟨by rw [htimer]; rfl, huirr⟩
  case delivered =>
    obtain ⟨w, hboundary, -, -, -, htimer, huirr⟩ :=
      boundary_delivers hpending ⟨hcpl, hcr4⟩ hevents huif hvmx hmatched
    obtain ⟨hset, habove⟩ := highestRequest_spec (huirr ▸ requestUser_uirr_ne_zero s)
    have htimer' : w.wakeUp.markResume.userTimer = w.userTimer := State.markResume_userTimer w.wakeUp
    have huirr' : w.wakeUp.markResume.uirr = w.uirr := State.markResume_uirr w.wakeUp
    refine ⟨_, _, hboundary, by rw [htimer', htimer]; rfl, huirr'.trans huirr, by rwa [huirr'], ?_⟩
    rwa [huirr']

end Sys2Proof.Machine

/-! ## Data breakpoints and trace triggers (10_state R35, 60 R561 to R565) -/

namespace Sys2Proof.Machine

section
variable {s t : State} {x : Fin 4} {a : DataAccess}

/-! ### Which accesses match -/

theorem breakSize_pos (s : State) (x : Fin 4) : 0 < breakSize s x := by
  unfold breakSize
  split <;> decide

/-- Two non-empty ranges overlap exactly when they have a number in common. -/
theorem overlap_iff {a m b n : Nat} (hm : 0 < m) (hn : 0 < n) :
    (b < a + m ∧ a < b + n) ↔ ∃ k, a ≤ k ∧ k < a + m ∧ b ≤ k ∧ k < b + n := by
  constructor
  · intro ⟨hba, hab⟩
    exact ⟨max a b, by omega, by omega, by omega, by omega⟩
  · rintro ⟨k, hak, hka, hbk, hkb⟩
    omega

/-- An access of at least one byte matches a breakpoint exactly when it is enabled for such an access and a byte
accessed is a byte watched. -/
theorem breakMatches_iff (ha : 0 < a.size) : breakMatches s x a = true ↔
    (s.dr7.getLsbD (2 * x) = true ∨ s.dr7.getLsbD (2 * x + 1) = true) ∧
      (breakKind s x = 3 ∨ breakKind s x = 1 ∧ a.write = true) ∧
      ∃ k, breakStart s x ≤ k ∧ k < breakStart s x + breakSize s x ∧ a.la.toNat ≤ k ∧ k < a.la.toNat + a.size := by
  rw [← overlap_iff (breakSize_pos s x) ha]
  simp only [breakMatches, breakEnabled, Bool.and_eq_true, Bool.or_eq_true, beq_iff_eq, decide_eq_true_eq, and_assoc]

theorem mem_dataMatches_iff {i : Instr} : x ∈ dataMatches s t i ↔
    (s.dr7.getLsbD (2 * x) = true ∨ s.dr7.getLsbD (2 * x + 1) = true) ∧
      ∃ a ∈ dataAccesses s t i, (breakKind s x = 3 ∨ breakKind s x = 1 ∧ a.write = true) ∧
        ∃ k, breakStart s x ≤ k ∧ k < breakStart s x + breakSize s x ∧ a.la.toNat ≤ k ∧ k < a.la.toNat + a.size := by
  rw [mem_dataMatches]
  constructor
  · rintro ⟨a, ha, hmatch⟩
    obtain ⟨henabled, hkind⟩ := (breakMatches_iff (dataAccesses_pos s t i a ha)).mp hmatch
    exact ⟨henabled, a, ha, hkind⟩
  · rintro ⟨henabled, a, ha, hkind⟩
    exact ⟨a, ha, (breakMatches_iff (dataAccesses_pos s t i a ha)).mpr ⟨henabled, hkind⟩⟩

/-! ### What the instructions access -/

theorem memAccess_of_linearOf {m : MemOp} {n : Nat} {la : QWord} (h : linearOf s (memPointer s m) n = .ok la)
    (write : Bool) : memAccess s m n write = [⟨la, n, write⟩] := by
  rw [memAccess, pointerAccess, h]

/-- A remote atomic operation writes its operand (41_rao R219). -/
theorem dataAccesses_raoInstr (s t : State) (op : RaoOp) (wide : Bool) (m : MemOp) (r : RegNum) :
    dataAccesses s t (raoInstr op wide m r) = memAccess s m (formBytes wide) true := by
  cases wide <;> cases op <;> rfl

theorem dataAccesses_cmpccInstr (s t : State) (c : Cond) (wide : Bool) (m : MemOp) (a b : RegNum) :
    dataAccesses s t (cmpccInstr c wide m a b) = memAccess s m (formBytes wide) true := by
  cases wide <;> cases c <;> rfl

end

section
variable {s : State} {is : List TriggerInput}

/-! ### Trigger units (60 R561, R563) -/

/-- Some unit that fires on the inputs has this bit set in its configuration. -/
def asksFor (s : State) (is : List TriggerInput) (bit : Nat) : Bool :=
  (firedUnits s is).any fun u => (triggerCfg s u).getLsbD bit

theorem triggerFires_eq_true {u : Nat} : triggerFires s is u = true ↔
    (triggerCfg s u).getLsbD s.platform.trace.enableBit = true ∧
      ∃ i ∈ is, triggerInput s u = some i ∧ logEnabled s i = true := by
  simp only [triggerFires, Bool.and_eq_true, List.any_eq_true, beq_iff_eq]

/-- The inputs of the trigger units for matched breakpoints, in the model's spelling, which coerces the list to one of
numbers. -/
theorem mem_matchInputs_iff {xs : List (Fin 4)} {i : TriggerInput} :
    i ∈ (xs.map fun x => .debugMatch x : List TriggerInput) ↔ ∃ x : Fin 4, x ∈ xs ∧ .debugMatch x = i := by
  simp only [List.mem_map, List.bind_eq_flatMap, List.mem_flatMap, List.pure_def, List.mem_singleton]
  constructor
  · rintro ⟨_, ⟨x, hx, rfl⟩, rfl⟩
    exact ⟨x, hx, rfl⟩
  · rintro ⟨x, hx, rfl⟩
    exact ⟨x, ⟨x, hx, rfl⟩, rfl⟩

/-- A bit is asked for by a unit that is enabled for it and selects a breakpoint that is logged. -/
theorem asksFor_debugMatch_iff {xs : List (Fin 4)} {bit : Nat} :
    asksFor s (xs.map fun x => .debugMatch x) bit = true ↔
      ∃ u < (cpuidQuery s 0x14 1).eax.toNat / 2 ^ 8 % 8, ∃ x : Fin 4, x ∈ xs ∧ logEnabled s (.debugMatch x) = true ∧
        (triggerCfg s u).getLsbD s.platform.trace.enableBit = true ∧ triggerInput s u = some (.debugMatch x) ∧
        (triggerCfg s u).getLsbD bit = true := by
  simp only [asksFor, firedUnits, List.any_eq_true, List.mem_filter, List.mem_range, triggerFires_eq_true,
    mem_matchInputs_iff]
  constructor
  · rintro ⟨u, ⟨hu, henabled, _, ⟨x, hx, rfl⟩, hselected, hlog⟩, hbit⟩
    exact ⟨u, hu, x, hx, hlog, henabled, hselected, hbit⟩
  · rintro ⟨u, hu, x, hx, hlog, henabled, hselected, hbit⟩
    exact ⟨u, ⟨hu, henabled, _, ⟨x, hx, rfl⟩, hselected, hlog⟩, hbit⟩

/-- Units that ask for both a pause and a resume, or for neither, leave tracing alone. -/
theorem fireTriggers_of_same
    (h : asksFor s is s.platform.trace.pauseBit = asksFor s is s.platform.trace.resumeBit) : fireTriggers s is = s :=
  if_pos h

/-- Units that ask for one of the two set or clear the paused bit. -/
theorem fireTriggers_of_differ
    (h : asksFor s is s.platform.trace.pauseBit ≠ asksFor s is s.platform.trace.resumeBit) :
    (fireTriggers s is).msrs = Store.set 0 0x571 (if asksFor s is s.platform.trace.pauseBit
      then Store.get 0 0x571 s.msrs ||| 0x100 else Store.get 0 0x571 s.msrs &&& ~~~0x100) s.msrs :=
  congrArg State.msrs (if_neg h)

theorem getLsbD_paused (b : Bool) (v : QWord) (n : Nat) (hn : n < 64) :
    (if b then v ||| 0x100 else v &&& ~~~0x100 : QWord).getLsbD n = if n = 8 then b else v.getLsbD n := by
  have hpaused : (0x100 : QWord).getLsbD n = decide (n = 8) := by
    revert n
    decide
  cases b with
  | false =>
    rw [if_neg Bool.false_ne_true, BitVec.getLsbD_and, BitVec.getLsbD_not, hpaused, decide_eq_true hn]
    by_cases h8 : n = 8 <;> simp [h8]
  | true =>
    rw [if_pos rfl, BitVec.getLsbD_or, hpaused]
    by_cases h8 : n = 8 <;> simp [h8]

/-- Of IA32_RTIT_STATUS the units change the paused bit alone, and give it what they ask for. -/
theorem getLsbD_status_fireTriggers (hwf : Store.wf 0 s.msrs = true) {n : Nat} (hn : n < 64) :
    (Store.get 0 0x571 (fireTriggers s is).msrs).getLsbD n =
      if n = 8 ∧ asksFor s is s.platform.trace.pauseBit ≠ asksFor s is s.platform.trace.resumeBit
      then asksFor s is s.platform.trace.pauseBit else (Store.get 0 0x571 s.msrs).getLsbD n := by
  by_cases h : asksFor s is s.platform.trace.pauseBit = asksFor s is s.platform.trace.resumeBit
  · rw [fireTriggers_of_same h, if_neg fun h' => h'.2 h]
  · rw [fireTriggers_of_differ h, Store.get_set_same hwf, getLsbD_paused _ _ _ hn]
    simp only [h, ne_eq, not_false_eq_true, and_true]

end

/-- What the units do with breakpoints that match together, in the terms of what is logged and asked for. -/
theorem fireTriggers_matches {s t : State} {xs : List (Fin 4)} {log : Fin 4 → Prop} {asks : Nat → Prop}
    (hlog : ∀ x, log x ↔ logEnabled s (.debugMatch x) = true)
    (hasks : ∀ bit, asks bit ↔ asksFor s (xs.map fun x => .debugMatch x) bit = true)
    (ht : t = fireTriggers s (xs.map fun x => .debugMatch x)) :
    (storesWf s = true → ∀ n < 64, n ≠ 8 →
      (Store.get 0 0x571 t.msrs).getLsbD n = (Store.get 0 0x571 s.msrs).getLsbD n) ∧
    (storesWf s = true → asks s.platform.trace.pauseBit → ¬ asks s.platform.trace.resumeBit →
      (Store.get 0 0x571 t.msrs).getLsbD 8 = true) ∧
    (storesWf s = true → asks s.platform.trace.resumeBit → ¬ asks s.platform.trace.pauseBit →
      (Store.get 0 0x571 t.msrs).getLsbD 8 = false) ∧
    ((asks s.platform.trace.pauseBit ↔ asks s.platform.trace.resumeBit) → t.msrs = s.msrs) ∧
    ((∀ x ∈ xs, log x) → onMatches xs s = .ok t) ∧
    ((∃ x ∈ xs, ¬ log x) →
      ∃ u, onMatches xs s = .error (.delivered (.exception .db) u) ∧ u.msrs = t.msrs) := by
  subst ht
  simp only [hasks, hlog, Bool.not_eq_true]
  refine ⟨fun hs n hn h8 => ?other, fun hs hp hr => ?pause, fun hs hr hp => ?resume, fun hsame => ?same,
    fun hall => onMatches_eq_ok.mpr ⟨hall, rfl⟩, fun hdb => ⟨_, onMatches_eq_error.mpr ⟨hdb, rfl⟩, ?db⟩⟩
  case other =>
    obtain ⟨-, hmsrs, -, -⟩ := storesWf_iff.mp hs
    rw [getLsbD_status_fireTriggers hmsrs hn, if_neg fun h => h8 h.1]
  case pause =>
    obtain ⟨-, hmsrs, -, -⟩ := storesWf_iff.mp hs
    rw [getLsbD_status_fireTriggers hmsrs (by decide), hp, hr, if_pos ⟨rfl, by decide⟩]
  case resume =>
    obtain ⟨-, hmsrs, -, -⟩ := storesWf_iff.mp hs
    rw [getLsbD_status_fireTriggers hmsrs (by decide), hp, hr, if_pos ⟨rfl, by decide⟩]
  case same => rw [fireTriggers_of_same (Bool.eq_iff_iff.mpr hsame)]
  case db => exact State.markResume_msrs _

/-- Settles O59: a match is an overlap of the bytes accessed with those watched; matched breakpoints are the inputs of
the trigger units, and stop the step exactly where one is not logged. -/
theorem debugMatch : Obligations.DebugMatch := by
  unfold Obligations.DebugMatch
  refine ⟨fun s t i x => mem_dataMatches_iff, fun s t op c wide m a b la hla => ⟨?rao, ?cmpcc⟩,
    fun s t m i hi => ?hints, fun s => ⟨rfl, rfl⟩, fun s xs log asks hlog hasks => ?triggers⟩
  case rao => rw [dataAccesses_raoInstr, memAccess_of_linearOf hla]
  case cmpcc => rw [dataAccesses_cmpccInstr, memAccess_of_linearOf hla]
  case hints =>
    simp only [List.mem_cons, List.not_mem_nil, or_false] at hi
    obtain rfl | rfl | rfl | rfl | rfl | rfl := hi <;> rfl
  case triggers =>
    have hasks' (bit : Nat) : asks bit ↔ asksFor s (xs.map fun x => .debugMatch x) bit = true := by
      rw [hasks, asksFor_debugMatch_iff]
      simp only [hlog]
      rfl
    refine ⟨fireTriggers s (xs.map fun x => .debugMatch x), ?frame, fun a ha => fireTriggers_get ha,
      fireTriggers_matches hlog hasks' rfl⟩
    rw [fireTriggers_frame]

end Sys2Proof.Machine

/-! ## VM exits (60 R540, R542, R545) -/

namespace Sys2Proof.Machine

/-! ### The state a VM exit leaves -/

section
variable (s : State)

/-- IA32_SPEC_CTRL is saved where the control says so. -/
theorem vmExitState_vmcs : (vmExitState s).vmcs =
    if s.vmcs.saveSpecCtrl then { s.vmcs with guestSpecCtrl := Store.get 0 0x48 s.msrs } else s.vmcs := by
  unfold vmExitState
  simp only
  split_ifs <;> rfl

/-- The host's IA32_SPEC_CTRL is loaded where the control says so. -/
theorem vmExitState_msrs : (vmExitState s).msrs =
    if s.vmcs.loadHostSpecCtrl then Store.set 0 0x48 s.vmcs.hostSpecCtrl s.msrs else s.msrs := by
  unfold vmExitState
  simp only
  split_ifs <;> rfl

end

section
variable {s : State}

theorem get_vmExitState_specCtrl (hload : s.vmcs.loadHostSpecCtrl = true) (hwf : storesWf s = true) :
    Store.get 0 0x48 (vmExitState s).msrs = s.vmcs.hostSpecCtrl := by
  obtain ⟨-, hmsrs, -, -⟩ := storesWf_iff.mp hwf
  rw [vmExitState_msrs, if_pos hload, Store.get_set_same hmsrs]

/-! ### The instructions that a control makes exit -/

/-- CPUID exits unconditionally (40 R170). -/
theorem exec_cpuid_of_guest (hvmx : s.vmx = .nonRoot) :
    exec .cpuid s = raise (.vmExit 10 0 (exitLength s) 0) s :=
  settle_of_first_check (decide_eq_false fun h => h hvmx) ..

theorem exec_pconfig_of_exit (henum : enumerated s .pconfig = true) (hcpl : s.cpl = 0)
    (hexit : pconfigExits s (s.reg32 rax).toNat = true) :
    exec .pconfig s = raise (.vmExit 65 0 (exitLength s) 0) s := by
  have hlegal : (enumerated s .pconfig && decide (s.cpl = 0)) = true := by rw [henum, decide_eq_true hcpl]; rfl
  change execPconfig s = _
  rw [execPconfig, need_bind_of_true hlegal]
  exact settle_of_first_check (by rw [hexit]; rfl) ..

theorem pconfigExits_of_guest {leaf : Nat} (hvmx : s.vmx = .nonRoot) (henable : s.vmcs.enablePconfig = true)
    (hbit : s.vmcs.pconfigExiting.getLsbD (min leaf 63) = true) : pconfigExits s leaf = true := by
  rw [pconfigExits, decide_eq_true hvmx, henable, hbit]
  rfl

theorem exec_wrmsrns_of_exit (henum : enumerated s .wrmsrns = true) (hcpl : s.cpl = 0)
    (hexit : msrExits s true (s.reg32 rcx).toNat = true) :
    exec .wrmsrns s = raise (.vmExit 32 0 (exitLength s) 0) s := by
  have hlegal : (decide (s.cpl = 0) || decide (s.mode = .real)) = true := by rw [decide_eq_true hcpl]; rfl
  change execWrmsrns s = _
  rw [execWrmsrns, need_bind_of_true henum, need_bind_of_true hlegal]
  exact settle_of_first_check (by rw [hexit]; rfl) ..

theorem exec_mwait_of_exit (hmonitor : monitorEnabled s = true)
    (henum : enumerated s .monitor = true ∨ enumerated s .mwait = true) (hcpl : s.cpl = 0) (hvmx : s.vmx = .nonRoot)
    (hexit : s.vmcs.mwaitExiting = true) :
    exec .mwait s = raise (.vmExit 36 (match s.monitor with | .armed _ _ => 1 | _ => 0) (exitLength s) 0) s := by
  have henum' : (enumerated s .monitor || enumerated s .mwait) = true := Bool.or_eq_true_iff.mpr henum
  have hfails : (!(decide (s.vmx = .nonRoot) && s.vmcs.mwaitExiting)) = false := by
    rw [decide_eq_true hvmx, hexit]
    rfl
  refine settle_bind_of_error ?_ _
  rw [mwaitCheck, need_bind_of_true hmonitor, need_bind_of_true henum', need_bind_of_true (decide_eq_true hcpl)]
  exact need_bind_of_false hfails ..

/-! ### RDMSRLIST and WRMSRLIST -/

theorem msrListCheck_of_guest (h64 : s.in64 = true) (henum : enumerated s .msrList = true)
    (henable : s.vmcs.enableMsrList = true) (hcpl : s.cpl = 0) (hsi : (s.reg rsi).toNat % 8 = 0)
    (hdi : (s.reg rdi).toNat % 8 = 0) : msrListCheck s = .ok () := by
  rw [msrListCheck, h64, henum, henable, Bool.or_true, decide_eq_true hcpl, hsi, hdi]
  rfl

section
variable {kind : AccessKind} {body : Nat → LoadStates → QWord → State → Except Stop (QWord × State)} {n i : Nat}
  {earlier : List State} {floor : QWord} {x : Stop}

/-- A first entry that loads in turn and stops, stops the list. -/
theorem msrListLoop_of_stop (hload : s.env.loadAhead = []) (hi : i < 64) (hmask : s.reg rcx = BitVec.twoPow 64 i)
    (hbody : body i ⟨s, s⟩ floor s = .error x) : msrListLoop kind body (n + 1) earlier floor s = raise x s := by
  have hne : s.reg rcx ≠ 0 := by rw [hmask]; exact twoPow_ne_zero hi
  have hlist : listLoad s = .inTurn := by rw [listLoad, hload]; rfl
  have hturn : s.dropLoadAhead = s := by rw [State.dropLoadAhead, hload, List.tail_nil, ← hload]
  have hfault : loadAheadFault s kind i = none := by rw [loadAheadFault, hlist]
  have hstates : loadStates s earlier = ⟨s, s⟩ := by rw [loadStates, hlist]
  rw [msrListLoop, if_neg hne, hmask, lowestBit_twoPow hi]
  simp only [hfault, hstates, hturn, hbody]

end

section
variable {i : Nat} {entry : QWord}

/-- The qualification is the whole entry where bitmaps are used. -/
theorem msrExit_toNat (s : State) (reason : Nat) (entry : QWord) : msrExit s reason entry.toNat =
    .vmExit reason (if s.vmcs.useMsrBitmaps then entry else 0) (exitLength s) 0 := by
  rw [msrExit, BitVec.ofNat_toNat, BitVec.setWidth_eq]

theorem rdmsrEntry_of_exit {floor : QWord} (hread : readEntry s rsi i = .ok entry) (hentry : entry.toNat < 2 ^ 32)
    (hexit : msrExits s false entry.toNat = true) :
    rdmsrEntry i ⟨s, s⟩ floor s = .error (msrExit s 78 entry.toNat) := by
  rw [rdmsrEntry, entryAddress_eq_ok hread hentry]
  exact need_bind_of_false (by rw [hexit]; rfl) ..

theorem wrmsrEntry_of_exit {floor data : QWord} (hread : readEntry s rsi i = .ok entry) (hentry : entry.toNat < 2 ^ 32)
    (hdata : readEntry s rdi i = .ok data) (hexit : msrExits s true entry.toNat = true) :
    wrmsrEntry i ⟨s, s⟩ floor s = .error (msrExit s 79 entry.toNat) := by
  rw [wrmsrEntry, entryAddress_eq_ok hread hentry, hdata]
  exact need_bind_of_false (by rw [hexit]; rfl) ..

end

/-! ### URDMSR and UWRMSR -/

theorem extractLsb'_userMsrInfo (s : State) (r : RegNum) : (userMsrInfo s r).extractLsb' 3 4 = r := by
  refine BitVec.eq_of_getLsbD_eq fun k hk => ?_
  have hmask : (0x78 : DWord).getLsbD (3 + k) = true := by
    revert k
    decide
  have hin : 3 + k < 32 := by omega
  rw [userMsrInfo, BitVec.getLsbD_extractLsb', BitVec.getLsbD_or, BitVec.getLsbD_and, BitVec.getLsbD_not, hmask,
    BitVec.getLsbD_shiftLeft, BitVec.getLsbD_setWidth]
  simp [hk, hin, show k < 32 by omega]

/-- The data operand is named in bits 6:3 of the instruction information (44 R311). -/
theorem userMsrInfo_register (s : State) (r : RegNum) : (userMsrInfo s r).toNat / 8 % 16 = r.toNat := by
  have h := congrArg BitVec.toNat (extractLsb'_userMsrInfo s r)
  rwa [BitVec.extractLsb'_toNat, Nat.shiftRight_eq_div_pow] at h

theorem userMsrCheck_of_exit {vex write : Bool} {a : Nat} {r : RegNum} {byte : Byte} (h : userMsrRuns s vex = true)
    (hon : (Store.get 0 0x1C s.msrs).getLsbD 0 = true) (ha : a ≤ 0x3FFF)
    (hread : readSupervisorByte s (userBitmapByte s write a) = .ok byte) (hbit : byte.getLsbD (a % 8) = true)
    (hlist : write = true → a ∈ s.platform.userMsrWritable) (hexit : userMsrExits s write a = true) :
    userMsrCheck s vex write a r = .error (if s.enclave then gp0
      else .vmExit (if write then 81 else 80) (BitVec.ofNat 64 a) (exitLength s) (userMsrInfo s r)) := by
  have hlist' : (!write || s.platform.userMsrWritable.contains a) = true := by
    cases write with
    | false => rfl
    | true => simpa using hlist rfl
  rw [userMsrCheck_of_byte h hon ha hread, need_bind_of_true hbit, need_bind_of_true hlist', hexit]
  rfl

/-! ### EPT violations -/

theorem translate_of_ept {kind : AccessKind} {user : Bool} {la q : QWord} (hvmx : s.vmx = .nonRoot)
    (hpage : translatePage s kind user (la.toNat / 4096) = .eptViolation q) :
    translate s kind user la = .error (.vmExit 48 q 0 0) := by
  rw [translate, hpage]
  exact if_pos hvmx

theorem translateAll_of_first_stop {kind : AccessKind} {user : Bool} {la : QWord} {n : Nat} {x : Stop}
    (hn : 0 < n) (h : translate s kind user la = .error x) : translateAll s kind user la n = .error x := by
  obtain ⟨m, rfl⟩ := Nat.exists_eq_succ_of_ne_zero hn.ne'
  rw [translateAll, h]
  rfl

theorem access_of_translateAll_error {p : Pointer} {n align : Nat} {kind : AccessKind} {implicit : Bool} {la : QWord}
    {x misaligned : Stop} (hla : linearOf s p n = .ok la) (hlass : lassData s implicit la = true)
    (halign : la.toNat % align = 0) (hx : translateAll s kind (s.userAccess implicit) la n = .error x) :
    access s p n kind implicit align misaligned = .error x := by
  rw [access, hla]
  exact (need_bind_of_true hlass ..).trans ((need_bind_of_true (beq_iff_eq.mpr halign) ..).trans hx)

/-- A remote atomic operation exits with the EPT violation of its first byte. -/
theorem exec_raoInstr_of_ept {op : RaoOp} {wide : Bool} {m : MemOp} {r : RegNum} {la q : QWord}
    (hvmx : s.vmx = .nonRoot) (henum : enumerated s .raoInt = true)
    (hla : linearOf s (memPointer s m) (formBytes wide) = .ok la)
    (hlass : lassData s false la = true) (halign : la.toNat % formBytes wide = 0)
    (hpage : translatePage s .write (s.userAccess false) (la.toNat / 4096) = .eptViolation q) :
    exec (raoInstr op wide m r) s = raise (.vmExit 48 q 0 0) s := by
  have hpos : 0 < formBytes wide := by cases wide <;> decide
  rw [exec_raoInstr]
  exact raoIssue_of_access_error henum hla (access_of_translateAll_error hla hlass halign
    (translateAll_of_first_stop hpos (translate_of_ept hvmx hpage)))

end

/-- Settles O60: each exit is the stop of one check, which leaves the state of `vmExitState`. -/
theorem vmExits : Obligations.VmExits := by
  unfold Obligations.VmExits
  intro s u hvmx hu
  subst hu
  refine ⟨?frame, vmExitState_vmcs s, fun hload => ?notLoaded, fun hload hwf => ⟨get_vmExitState_specCtrl hload hwf,
      fun a => get_vmExitState s⟩, exec_cpuid_of_guest hvmx,
    fun henum hcpl henable hbit => exec_pconfig_of_exit henum hcpl (pconfigExits_of_guest hvmx henable hbit),
    fun henum hcpl hexit => exec_wrmsrns_of_exit henum hcpl hexit,
    fun hmonitor henum hcpl hexit => exec_mwait_of_exit hmonitor henum hcpl hvmx hexit,
    fun i entry data h64 henum henable hcpl hsi hdi hload hi hmask hread hentry => ?lists,
    fun write r addr imm i a byte h64 henum hi havx hon ha hread hbit hlist hexit => ?userMsr,
    fun op wide m r la q henum hla hlass halign hpage => exec_raoInstr_of_ept hvmx henum hla hlass halign hpage⟩
  case frame => rw [vmExitState_frame]
  case notLoaded => rw [vmExitState_msrs, hload, if_neg Bool.false_ne_true]
  case lists =>
    have hcheck := msrListCheck_of_guest h64 henum henable hcpl hsi hdi
    refine ⟨fun hexit => ?read, fun hdata hexit => ?write⟩
    case read =>
      rw [exec_rdmsrlist_of_ok hcheck, msrListLoop_of_stop hload hi hmask (rdmsrEntry_of_exit hread hentry hexit),
        msrExit_toNat]
      rfl
    case write =>
      rw [exec_wrmsrlist_of_ok hcheck,
        msrListLoop_of_stop hload hi hmask (wrmsrEntry_of_exit hread hentry hdata hexit), msrExit_toNat]
      rfl
  case userMsr =>
    obtain ⟨vex, k, hexec, -, hreg⟩ := exec_userMsr_form hi
    have hruns : userMsrRuns s vex = true := userMsrRuns_eq_true h64 henum (havx.symm.imp_left hreg)
    have hstop := settle_bind_of_error (s := s) (userMsrCheck_of_exit (r := r) hruns hon ha hread hbit hlist hexit) k
    refine ⟨fun henclave => ?fault, fun henclave => ⟨userMsrInfo s r, userMsrInfo_register s r, ?exit⟩⟩
    case fault => rw [hexec, hstop, henclave, if_pos rfl]; rfl
    case exit => rw [hexec, hstop, henclave, if_neg Bool.false_ne_true]; rfl

end Sys2Proof.Machine
